-- ==== Sys2Proof/Word.lean ====
section
/-! DEFINITION. The widths of the EPD engine: request and response words, bytes, line levels
(spec/30_encoding.md R70, spec/10_state.md R20). -/

namespace Sys2Proof

/-- A request or response word (R70, R78). -/
abbrev Word := BitVec 32

/-- A framebuffer byte, or a byte of the bus (R50, R88). -/
abbrev Byte := BitVec 8

/-- The level of a one-bit line: `true` is 1 (high), `false` is 0 (low) (R20). -/
abbrev Level := Bool

end Sys2Proof
end

