-- ==== Sys2Proof/Config.lean ====
section
/-! DEFINITION. What is fixed at construction (spec/00_scope.md R8 to R10, spec/10_state.md R27, R28), and
the free values: constants with no body, of which nothing can be proved. -/

namespace Sys2Proof

/-- The refresh strategies of R27. -/
inductive Strategy where
  | a
  | b
  | b75
  deriving DecidableEq, Repr

/-- The six panel profile ids of R27. -/
inductive ProfileId where
  | a200x200
  | a128x250
  | a128x296
  | b176x264
  | b400x300
  | b75x640x384
  deriving DecidableEq, Repr

/-- One (command byte, data bytes) pair of an init script or of the setup LUTs (R28). -/
structure Command where
  code : Byte
  data : List Byte
  deriving DecidableEq, Repr

/-- The immutable per-model record of R28, under the id that selects it (R8, R30). `lutFull` and `lutPartial`
belong to strategy A only. -/
structure Profile where
  id         : ProfileId
  strategy   : Strategy
  width      : Nat
  height     : Nat
  initScript : List Command
  setupLuts  : List Command
  lutFull    : List Byte
  lutPartial : List Byte
  deriving DecidableEq, Repr

/-- `CMDCODE`, the byte of each panel command that R90 names. -/
structure CmdCode where
  writeLut         : Byte
  setXWindow       : Byte
  setYWindow       : Byte
  setXCounter      : Byte
  setYCounter      : Byte
  writeRam         : Byte
  updateControl    : Byte
  masterActivation : Byte
  terminateFrame   : Byte
  dataTx1          : Byte
  dataTx2          : Byte
  displayRefresh   : Byte
  deriving DecidableEq, Repr

/-- `B75_PLANES`: the admitted values of R178. -/
inductive Planes where
  | one
  | two
  deriving DecidableEq, Repr

/-- `GATE_ORDER` (R143, R151). -/
inductive GateOrder where
  | timeoutFirst
  | sampleFirst
  deriving DecidableEq, Repr

/-- The part of `P_BUS` that R33 and R130 name: the levels of `sclk` and `mosi` outside a transaction.
Its rates, clock mode and hold times are out of scope (R6). -/
structure BusParams where
  sclkIdle : Level
  mosiIdle : Level
  deriving DecidableEq, Repr

/-- The configuration of R8 with the open parameters of R10. `timeUnit` and `updateInterval` have no
effect on the engine (R8, R10). -/
structure Config where
  profile         : Profile
  fullUpdateEvery : BitVec 32
  hasReset        : Bool
  hasBusy         : Bool
  cmdCode         : CmdCode
  updateCtrlData  : List Byte
  dcCmdLevel      : Level
  bus             : BusParams
  b75Planes       : Planes
  toneOn          : BitVec 4
  gateOrder       : GateOrder
  timeUnit        : Nat
  updateInterval  : Nat
  deriving DecidableEq, Repr

/-- FREE VALUE: the byte the framebuffer holds at an address at `State.reset` (R222, log 4). -/
opaque Config.freeFbByte : Nat → Byte

/-- FREE VALUE: the level of the n-th BUSY sample, where the state lists no coming level (R141, log 5). -/
opaque Config.freeBusy : Nat → Level

/-- FREE VALUE: the bytes of `State.reset`'s configuration that no source gives (R10, log 2). -/
opaque Config.openByte : Nat → Byte

/-- FREE VALUE: the levels of `State.reset`'s configuration that no source gives (R10, log 2). -/
opaque Config.openLevel : Nat → Level

/-- Time units between two BUSY samples (R9, R144). -/
def Config.pollInterval : Nat := 10

/-- The timeout of the engine's own waits, in time units (R9). -/
def Config.waitTimeout : Nat := 1000

/-- How long the engine holds RST low, in time units (R9, R162). -/
def Config.rstLowTime : Nat := 200

/-- How long the engine lets the panel settle after releasing RST, in time units (R9, R162). -/
def Config.rstSettleTime : Nat := 200

end Sys2Proof
end

