-- ==== Sys2Proof/Syntax.lean ====
section
/-! DEFINITION. The requests of spec/opcode_table.json, one constructor a row, with the operands as
spec/30_encoding.md R79 decodes them. -/

namespace Sys2Proof

/-- The colour operand `c` of R72 and R73: `black` is c = 1 (colored), `white` is c = 0 (clear). -/
inductive Colour where
  | black
  | white
  deriving DecidableEq, Repr

/-- A host request. Coordinates are signed integers, `i` and `t` unsigned ones (R72, R74). -/
inductive Instr where
  /-- SETPX x, y, colour (R100) -/
  | setpx (x y : Int) (c : Colour)
  /-- FILL colour (R101) -/
  | fill (c : Colour)
  /-- LEN (R102) -/
  | len
  /-- RDBYTE i (R103) -/
  | rdbyte (i : Nat)
  /-- CMD b (R125) -/
  | cmd (b : Byte)
  /-- DATA b (R126) -/
  | data (b : Byte)
  /-- WAIT T (R147) -/
  | wait (t : Nat)
  /-- SETUP (R161) -/
  | setup
  /-- DISPLAY (R165) -/
  | display
  /-- STATUS (R180) -/
  | status
  deriving DecidableEq, Repr

/-- The assembler's pseudo-instructions of R86. -/
inductive Pseudo where
  /-- `DATA b1, ..., bn` -/
  | dataBytes (bs : List Byte)
  /-- `WAIT` with no operand -/
  | waitDefault
  /-- `SEND c, d1, ..., dn` -/
  | send (c : Byte) (ds : List Byte)
  /-- `CLEAR` -/
  | clear
  deriving DecidableEq, Repr

end Sys2Proof
end

