-- ==== Sys2Proof/WellFormed.lean ====
section
/-! DEFINITION. Which requests an assembler admits (spec/30_encoding.md R82) and the well-formedness of a
profile (spec/10_state.md R29). -/

namespace Sys2Proof

/-- Every operand is in its field's range: an operand out of it is an assembly error, never a truncation
(R82). A byte operand is in range by its type. -/
def Instr.wf : Instr → Bool
  | .setpx x y _ => decide (-2048 ≤ x ∧ x ≤ 2047) && decide (-2048 ≤ y ∧ y ≤ 2047)
  | .fill _      => true
  | .len         => true
  | .rdbyte i    => decide (i ≤ 65535)
  | .cmd _       => true
  | .data _      => true
  | .wait t      => decide (t ≤ 65535)
  | .setup       => true
  | .display     => true
  | .status      => true

/-- A waveform table is 30 to 44 bytes long (R28, R29). -/
def lutLengthOk (n : Nat) : Bool := decide (30 ≤ n) && decide (n ≤ 44)

/-- The two strategy-A conditions of R29: the X window end fits a byte, and the two tables have one
length within the admitted range. -/
def Profile.wfA (p : Profile) : Bool :=
  decide (p.width ≤ 2048) && lutLengthOk p.lutFull.length
    && decide (p.lutFull.length = p.lutPartial.length)

/-- Profile well-formedness, condition by condition as R29 lists them. -/
def Profile.wf (p : Profile) : Bool :=
  decide (p.width % 8 = 0) && decide (8 ≤ p.width) && decide (1 ≤ p.height)
    && decide (p.height ≤ 65536) && decide (p.width * p.height / 8 ≤ 65535)
    && p.setupLuts.all (fun c => lutLengthOk c.data.length)
    && (decide (p.strategy ≠ .a) || p.wfA)

end Sys2Proof
end

