-- ==== Sys2Proof/Machine/Profiles.lean ====
section
/-! DEFINITION. The profile table (spec/10_state.md R27), which configurations an engine is built with
(spec/00_scope.md R8, R10), the framebuffer's length (spec/20_memory.md R51), and the configuration `State.reset` is built with (log 1, 2, 3). -/

namespace Sys2Proof.Machine

/-- The strategy column of R27. -/
def profileStrategy : ProfileId → Strategy
  | .a200x200   => .a
  | .a128x250   => .a
  | .a128x296   => .a
  | .b176x264   => .b
  | .b400x300   => .b
  | .b75x640x384 => .b75

/-- The width column of R27, in pixels. -/
def profileWidth : ProfileId → Nat
  | .a200x200   => 200
  | .a128x250   => 128
  | .a128x296   => 128
  | .b176x264   => 176
  | .b400x300   => 400
  | .b75x640x384 => 640

/-- The height column of R27, in pixels. -/
def profileHeight : ProfileId → Nat
  | .a200x200   => 200
  | .a128x250   => 250
  | .a128x296   => 296
  | .b176x264   => 264
  | .b400x300   => 300
  | .b75x640x384 => 384

/-- The record a model identifier selects (R30), completed with the open parameters of R28. -/
def profileOf (id : ProfileId) (script luts : List Command) (full part : List Byte) : Profile :=
  { id := id, strategy := profileStrategy id, width := profileWidth id, height := profileHeight id,
    initScript := script, setupLuts := luts, lutFull := full, lutPartial := part }

/-- The record is the one its id selects: its strategy and geometry are the table's row (R27, R30). -/
def isTableRow (p : Profile) : Bool :=
  decide (p.strategy = profileStrategy p.id) && decide (p.width = profileWidth p.id)
    && decide (p.height = profileHeight p.id)

/-- A configuration an engine is built with: one of the six profiles (R8), well-formed (R29), and a positive
time unit (R10). -/
def configWf (c : Config) : Bool := c.profile.wf && isTableRow c.profile && decide (0 < c.timeUnit)

/-- `L = width*height/8`, the number of framebuffer bytes (R51). -/
def byteLength (p : Profile) : Nat := p.width * p.height / 8

/-- `n` bytes no source gives, drawn at `k`, `k+1`, … (log 2). -/
def openBytes (k n : Nat) : List Byte := (List.range n).map (fun j => Config.openByte (k + j))

/-- The command bytes of `State.reset`'s configuration: no source gives one (R89, log 2). -/
def openCmdCode : CmdCode :=
  { writeLut := Config.openByte 0, setXWindow := Config.openByte 1, setYWindow := Config.openByte 2,
    setXCounter := Config.openByte 3, setYCounter := Config.openByte 4, writeRam := Config.openByte 5,
    updateControl := Config.openByte 6, masterActivation := Config.openByte 7,
    terminateFrame := Config.openByte 8, dataTx1 := Config.openByte 9, dataTx2 := Config.openByte 10,
    displayRefresh := Config.openByte 11 }

/-- The configuration of `State.reset`: that of program P1 of spec/95_test_vectors.md, DESIGN CHOICE
(log 1), with an empty init script and no setup LUTs (log 3), free bytes and levels where no source gives
any (log 2), and the spec's own choices for the plane count, the nibble and the gate order. -/
def resetConfig : Config :=
  { profile := profileOf .a128x250 [] [] (openBytes 100 30) (openBytes 200 30)
    fullUpdateEvery := 3#32
    hasReset := true
    hasBusy := true
    cmdCode := openCmdCode
    updateCtrlData := openBytes 300 1
    dcCmdLevel := Config.openLevel 0
    bus := { sclkIdle := Config.openLevel 1, mosiIdle := Config.openLevel 2 }
    b75Planes := .two
    toneOn := 0x3#4
    gateOrder := .timeoutFirst
    timeUnit := 1
    updateInterval := 1 }

end Sys2Proof.Machine
end

