-- ==== Sys2Proof/Machine/State.lean ====
section
/-! DEFINITION. Every piece of state the spec gives the engine (spec/10_state.md R20), as plain data, the
model's own input and history fields beside it, and the state after reset (spec/70_reset_and_hazards.md
R221). -/

namespace Sys2Proof.Machine

/-- The framebuffer: one cell for each byte index `0 .. L-1`, in rising order (R50, log 4). -/
abbrev Memory := List Host.Cell

/-- The sequencer register `phase` (R21). -/
inductive Phase where
  | uninit
  | setup
  | idle
  | refreshing
  | waiting
  deriving DecidableEq, Repr

/-- The degraded status flag (R26). -/
inductive Status where
  | nominal
  | degraded
  deriving DecidableEq, Repr

/-- An event of `trace` (R37). -/
inductive Event where
  | cmd (b : Byte)
  | data (b : Byte)
  | rst (v : Level)
  | sample (t : Nat) (v : Level)
  | busyTimeout
  deriving DecidableEq, Repr

/-- One drive of a framer line (R121): `dc` and `cs_n` take a level, or `mosi` takes the level of one bit
for one `sclk` cycle (log 10). -/
inductive LineEvent where
  | dc (v : Level)
  | csN (v : Level)
  | bit (v : Level)
  deriving DecidableEq, Repr

/-- The two kinds of bus transaction (R121). -/
inductive TxKind where
  | cmd
  | data
  deriving DecidableEq, Repr

/-- One bus transaction to send: a kind and a byte, and nothing else (R88). -/
structure Tx where
  kind : TxKind
  byte : Byte
  deriving DecidableEq, Repr

/-- The sub-step index of R21: the step of the running sequence that is in progress (log 14). -/
inductive SeqStep where
  /-- SETUP: RST low and its delay (R162) -/
  | pulseLow
  /-- SETUP: RST released and its delay (R162) -/
  | pulseHigh
  /-- SETUP: the init script (R163) -/
  | initScript
  /-- SETUP: the setup LUTs (R164) -/
  | setupLuts
  /-- WAIT: the poll loop of its gate (R147) -/
  | waitPoll
  /-- A1: the first gate begins (R166) -/
  | a1
  /-- A1: the poll loop of the first gate -/
  | a1Poll
  /-- A2: LUT mode dispatch (R167) -/
  | a2
  /-- A3: window and counters (R169, R170) -/
  | a3
  /-- A4: the second gate begins (R171) -/
  | a4
  /-- A4: the poll loop of the second gate -/
  | a4Poll
  /-- A5: the frame is streamed (R172) -/
  | a5
  /-- A6: update control, activation, terminate (R173) -/
  | a6
  /-- A7: status NOMINAL (R174) -/
  | a7
  /-- B: the entry gate begins (R175) -/
  | b1
  /-- B: the poll loop of the entry gate -/
  | b1Poll
  /-- B: the plane under DATA_TX_1 (R176) -/
  | b2
  /-- B: the plane under DATA_TX_2 (R176) -/
  | b3
  /-- B: the display refresh command (R179) -/
  | b4
  /-- B: status NOMINAL (R175) -/
  | b5
  deriving DecidableEq, Repr

/-- The result codes of R78. -/
inductive ResultCode where
  | ok
  | errIllegal
  | errSeq
  | errRange
  deriving DecidableEq, Repr

/-- A word the host will present at the port, and the ticks that pass before it does (log 11). -/
structure Request where
  gap  : Nat
  word : Word
  deriving DecidableEq, Repr

/-- Why the machine stops. The spec treats no behaviour of the engine as a fault; both reasons are for
states that no engine is in (log 18). -/
inductive Fault where
  /-- Raised by SETPX and RDBYTE at a byte index below `L` whose cell the state's framebuffer lacks. Safe:
  no claim about an engine is proved from it, since an engine's framebuffer has every byte (R23). -/
  | outsideFramebuffer
  /-- Raised by `step` in a phase SETUP, REFRESHING or WAITING whose `seqStep` names no step of that
  phase's sequence. Safe: in those phases the index names the step in progress (R21). -/
  | noSuchStep
  deriving DecidableEq, Repr

/-- Why the model gives no meaning. -/
inductive Refusal where
  /-- Raised by an arm of `exec` for an instruction with no meaning yet. Safe. No arm raises it. -/
  | notModelled (mnemonic : String)
  /-- Raised by `construct` for a configuration that is not admitted (R8, R29, R201), or a framebuffer that is
  not one byte for each index. Safe: no engine is built from it. -/
  | illFormedProfile
  deriving DecidableEq, Repr

/-- The engine's state. The fields down to `response` are the spec's; the four after it are the model's own
(log 5, 10, 11). `status_out` is computed from `status` (R26). -/
structure State where
  /-- the configuration, immutable (R8, R20, R28) -/
  cfg         : Config
  /-- `FB` (R23) -/
  fb          : Memory
  /-- `mode_counter` (R24) -/
  modeCounter : BitVec 32
  /-- `status` (R26) -/
  status      : Status
  /-- `phase` (R21) -/
  phase       : Phase
  /-- `step` (R21): none while no sequence runs -/
  seqStep     : Option SeqStep
  /-- `dc` (R31) -/
  dc          : Level
  /-- `cs_n`, active low (R32) -/
  csN         : Level
  /-- `sclk` (R33) -/
  sclk        : Level
  /-- `mosi` (R33) -/
  mosi        : Level
  /-- `rst_n`, active low, meaningful when `hasReset` (R34) -/
  rstN        : Level
  /-- `busy`, meaningful when `hasBusy`: the level last sampled (R35, log 6) -/
  busy        : Level
  /-- `gate_start` (R36) -/
  gateStart   : Nat
  /-- `gate_limit` (R36) -/
  gateLimit   : Nat
  /-- `gate_return` (R36, R147) -/
  gateReturn  : Phase
  /-- `now` (R36) -/
  now         : Nat
  /-- `trace`, oldest event first (R37) -/
  trace       : List Event
  /-- the response port: the last response word (R78, log 12) -/
  response    : Option Word
  /-- every drive of the framer's lines, oldest first (log 10) -/
  wire        : List LineEvent
  /-- the words the host will present, next first (log 11) -/
  requests    : List Request
  /-- the levels the coming BUSY samples read, next first (log 5) -/
  busyIn      : List Level
  /-- how many BUSY samples have been taken (log 5) -/
  samples     : Nat
  deriving DecidableEq, Repr

/-- What a meaning or a step answers. -/
abbrev Result := Host.Outcome State Fault Refusal

/-- The canonical form of a framebuffer of `len` bytes: its addresses are `0 .. len-1` in rising order, each
once. An address without a cell does not exist and reads as nothing, so no cell equals it (R50, log 4). -/
def Memory.wf (len : Nat) (m : Memory) : Bool := m.map Prod.fst == List.range len

/-- `n` cells from address `i` on, each with the free byte of its address (R222, log 4). -/
def Memory.drawnFrom : Nat → Nat → Memory
  | 0, _ => []
  | n + 1, i => (i, Config.freeFbByte i) :: Memory.drawnFrom n (i + 1)

/-- A framebuffer that holds the free byte of each address (R222, log 4). -/
def Memory.drawn (len : Nat) : Memory := Memory.drawnFrom len 0

/-- The state after reset of an engine built with configuration `c`, whose framebuffer happens to hold `m`
(R221, R222). The values no rule gives are those of log 6, 7, 8, 11 and 12. -/
def State.resetWith (c : Config) (m : Memory) : State :=
  { cfg := c
    fb := m
    modeCounter := 0#32
    status := .nominal
    phase := .uninit
    seqStep := none
    dc := false
    csN := true
    sclk := c.bus.sclkIdle
    mosi := c.bus.mosiIdle
    rstN := true
    busy := false
    gateStart := 0
    gateLimit := 0
    gateReturn := .uninit
    now := 0
    trace := []
    response := none
    wire := []
    requests := []
    busyIn := []
    samples := 0 }

/-- The machine right after reset (R220, R221), built with the configuration of log 1. -/
def State.reset : State := State.resetWith resetConfig (Memory.drawn (byteLength resetConfig.profile))

end Sys2Proof.Machine
end

