-- ==== Sys2Proof/Machine/Ops.lean ====
section
/-! DEFINITION. The named operations over memory and registers (the primitives of spec/00_scope.md R12), the
response (spec/30_encoding.md R78), the port (R87), and the abort, the engine's one trap
(spec/60_exceptions.md R207). -/

namespace Sys2Proof.Machine

/-! ### The framebuffer -/

/-- `MemRead(i, 1)`: byte `i`, or nothing where the memory has no such address (R12, R50). -/
def Memory.read : Memory → Nat → Option Byte
  | [], _ => none
  | c :: cs, i => if c.1 = i then some c.2 else Memory.read cs i

/-- `MemWrite(i, 1, v)`: byte `i` becomes `v` (R12). An address that does not exist is not added. -/
def Memory.write : Memory → Nat → Byte → Memory
  | [], _, _ => []
  | c :: cs, i, v => if c.1 = i then (i, v) :: cs else c :: Memory.write cs i v

/-- Every byte becomes `v` (R101). -/
def Memory.fill (m : Memory) (v : Byte) : Memory := m.map (fun c => (c.1, v))

/-- `FB[0], FB[1], ..., FB[L-1]` (R59). -/
def Memory.bytes (m : Memory) : List Byte := m.map Prod.snd

/-! ### Responses -/

/-- The code field of a response (R78). -/
def resultCodeBits : ResultCode → BitVec 4
  | .ok         => 0#4
  | .errIllegal => 1#4
  | .errSeq     => 2#4
  | .errRange   => 3#4

/-- `{code[3:0], 0[11:0], value[15:0]}` (R78). -/
def responseWord (code : ResultCode) (value : BitVec 16) : Word := resultCodeBits code ++ 0#12 ++ value

/-- `respond(code, value)` completes the current request (R12, R78). -/
def State.respond (s : State) (code : ResultCode) (value : BitVec 16) : State :=
  { s with response := some (responseWord code value) }

/-- The value of a yes-or-no answer: 1 for yes (R78). -/
def boolValue (b : Bool) : BitVec 16 := if b then 1#16 else 0#16

/-! ### Time, events, the RST output and the BUSY input -/

/-- `delay(t)`: `t` ticks pass (R12). -/
def State.delay (s : State) (t : Nat) : State := { s with now := s.now + t }

/-- An event is appended to `trace` (R37). -/
def State.log (s : State) (e : Event) : State := { s with trace := s.trace ++ [e] }

/-- `drive RST <- v`, with its event (R12, R162). -/
def State.driveRst (s : State) (v : Level) : State := { s with rstN := v, trace := s.trace ++ [.rst v] }

/-- The level that the sample `k` samples from now reads: what the environment has listed, else a free draw
(R141, log 5). -/
def State.upcomingBusy (s : State) (k : Nat) : Level := s.busyIn.getD k (Config.freeBusy (s.samples + k))

/-- `sample BUSY`: the line shows the environment's level, which the state's `busy` then holds, and the
sample is appended to `trace` (R141). -/
def State.sampleBusy (s : State) : State :=
  { s with
    busy := s.upcomingBusy 0
    busyIn := s.busyIn.tail
    samples := s.samples + 1
    trace := s.trace ++ [.sample s.now (s.upcomingBusy 0)] }

/-- `raise BusyTimeout(info)`, with empty info: the event and nothing else (R149, R200). -/
def State.raiseBusyTimeout (s : State) : State := s.log .busyTimeout

/-! ### The port and the sequencer -/

/-- The port takes a request only in these phases (R87). -/
def State.portReady (s : State) : Bool := decide (s.phase = .uninit) || decide (s.phase = .idle)

/-- The port takes the request `r`, of which `rs` are left: its idle ticks have passed, and no response
stands until it completes (R87, log 11, 12). -/
def State.accept (s : State) (r : Request) (rs : List Request) : State :=
  { s with now := s.now + r.gap, requests := rs, response := none }

/-- A sequence begins: `phase <- p` (R161, R165, R147). -/
def State.beginSequence (s : State) (p : Phase) : State := { s with phase := p }

/-- The sequence reaches the step `k` (R21). -/
def State.atStep (s : State) (k : SeqStep) : State := { s with seqStep := some k }

/-- A sequence ends: the phase it leaves for, no step, and its response (R160, R161, R165, R147). DESIGN CHOICE
(log 26): `gate_start`, `gate_limit` and `gate_return` keep the last gate's values, where the spec lets them
hold any value outside a wait (U17). -/
def State.complete (s : State) (p : Phase) (value : BitVec 16) : State :=
  { s with phase := p, seqStep := none, response := some (responseWord .ok value) }

/-- ABORT ENTRY, the engine's one trap, for a gate that failed inside DISPLAY after the gate's own event:
`status <- DEGRADED`, the rest of the sequence is skipped, `phase <- IDLE`, and the response is `OK, 0`. No
state is saved, nothing done before is undone, and there is no vector and no return (R207, R209). DESIGN
CHOICE (log 26): the gate registers keep the failed gate's values. -/
def State.abort (s : State) : State :=
  { s with
    status := .degraded
    phase := .idle
    seqStep := none
    response := some (responseWord .ok 0#16) }

/-- The request is turned away with an error code, with no other effect (R202 to R204). -/
def State.reject (s : State) (code : ResultCode) : State := s.respond code 0#16

end Sys2Proof.Machine
end

