-- ==== Sys2Proof/Machine/Channel.lean ====
section
/-! DEFINITION. The command/data framer and its requests CMD and DATA (spec/41_channel.md). -/

namespace Sys2Proof.Machine

/-- The level `dc` has for a transaction (R31, R121). -/
def dcLevel (c : Config) : TxKind → Level
  | .cmd  => c.dcCmdLevel
  | .data => !c.dcCmdLevel

/-- The event a transaction appends to `trace` (R121). -/
def txEvent (t : Tx) : Event :=
  match t.kind with
  | .cmd  => .cmd t.byte
  | .data => .data t.byte

/-- The bits of a byte in bus order: bit 7 first, bit 0 last (R61, R123). -/
def busBits (b : Byte) : List Level := [7, 6, 5, 4, 3, 2, 1, 0].map b.getLsbD

/-- Select-line state: `dc` takes a level (R121, step 1). -/
def State.driveDc (s : State) (v : Level) : State := { s with dc := v, wire := s.wire ++ [.dc v] }

/-- Acquisition and release: `cs_n` takes a level (R121, steps 2 and 4). -/
def State.driveCs (s : State) (v : Level) : State := { s with csN := v, wire := s.wire ++ [.csN v] }

/-- One bit: `mosi` takes a level for one `sclk` cycle, after which `sclk` is idle again (R121, step 3). -/
def State.shiftBit (s : State) (v : Level) : State :=
  { s with mosi := v, sclk := s.cfg.bus.sclkIdle, wire := s.wire ++ [.bit v] }

/-- Eight bits, in bus order (R121, step 3). -/
def State.shiftByte (s : State) (b : Byte) : State := (busBits b).foldl State.shiftBit s

/-- After a transaction `mosi` is at its idle level of `P_BUS` (R130, log 9). -/
def State.busIdle (s : State) : State :=
  { s with sclk := s.cfg.bus.sclkIdle, mosi := s.cfg.bus.mosiIdle }

/-- One bus transaction `tx(kind, b)`, step by step (R121). -/
def State.tx (s : State) (t : Tx) : State :=
  ((((s.driveDc (dcLevel s.cfg t.kind)).driveCs false).shiftByte t.byte).driveCs true).busIdle.log (txEvent t)

/-- The line drives of one transaction, in order (R121, R122). -/
def txWire (c : Config) (t : Tx) : List LineEvent :=
  [.dc (dcLevel c t.kind), .csN false] ++ (busBits t.byte).map .bit ++ [.csN true]

/-- The level a line ends at, after a stream of transactions that leaves it at `v`: its own, if there was
none. -/
def afterStream (ts : List Tx) (old v : Level) : Level := if ts.isEmpty then old else v

/-- A stream of transactions, one after another (R127, R128), as one update. -/
def State.send (s : State) (ts : List Tx) : State :=
  { s with
    dc := (ts.getLast?.map (fun t => dcLevel s.cfg t.kind)).getD s.dc
    csN := afterStream ts s.csN true
    sclk := afterStream ts s.sclk s.cfg.bus.sclkIdle
    mosi := afterStream ts s.mosi s.cfg.bus.mosiIdle
    trace := s.trace ++ ts.map txEvent
    wire := s.wire ++ ts.flatMap (txWire s.cfg) }

/-- `emit Cmd(b)` as a transaction to send (R12). -/
def cmdTx (b : Byte) : Tx := { kind := .cmd, byte := b }

/-- `emit Data(b)` as a transaction to send (R12). -/
def dataTx (b : Byte) : Tx := { kind := .data, byte := b }

/-- A command byte and then its data bytes, in order (R127). -/
def commandTxs (code : Byte) (ds : List Byte) : List Tx := cmdTx code :: ds.map dataTx

/-- CMD: send one command byte (R125). -/
def execCmd (b : Byte) (s : State) : Result := .next ((s.tx (cmdTx b)).respond .ok 0#16)

/-- DATA: send one data byte (R126). -/
def execData (b : Byte) (s : State) : Result := .next ((s.tx (dataTx b)).respond .ok 0#16)

end Sys2Proof.Machine
end

