-- ==== Sys2Proof/Machine/Flags.lean ====
section
/-! DEFINITION. Every flag the spec computes: the degraded status and its line (spec/10_state.md R26), the
gate's timeout test (spec/42_busygate.md R143), and the booleans of the LUT dispatch with the counter they
are read from (spec/43_refresh.md R167). -/

namespace Sys2Proof.Machine

/-- `status <- v` (R26). -/
def State.setStatus (s : State) (v : Status) : State := { s with status := v }

/-- `mode_counter <- v` (R24). -/
def State.setCounter (s : State) (v : BitVec 32) : State := { s with modeCounter := v }

/-- The output line `status_out`: 1 is DEGRADED (R26). -/
def State.statusOut (s : State) : Level := decide (s.status = .degraded)

/-- The value of a STATUS response (R78, R180). -/
def statusValue : Status → BitVec 16
  | .nominal  => 0#16
  | .degraded => 1#16

/-- `now - gate_start > gate_limit`: "exceeds", strictly greater (R143). -/
def State.gateExpired (s : State) : Bool := decide (s.gateLimit < s.now - s.gateStart)

/-- `N >= 2`: LUT switching is enabled (R25, R167). -/
def lutSwitching (n : BitVec 32) : Bool := decide (2 ≤ n.toNat)

/-- `full = (mode_counter = 0)` (R167). -/
def fullDue (counter : BitVec 32) : Bool := decide (counter.toNat = 0)

/-- `prev_full = (mode_counter = 1)` (R167). -/
def prevFull (counter : BitVec 32) : Bool := decide (counter.toNat = 1)

/-- `(mode_counter + 1) mod N`, computed exactly (R167, log 20). -/
def nextCounter (n counter : BitVec 32) : BitVec 32 := BitVec.ofNat 32 ((counter.toNat + 1) % n.toNat)

end Sys2Proof.Machine
end

