-- ==== Sys2Proof/Machine/Gate.lean ====
section
/-! DEFINITION. The busy gate `gate(T)` and its timeout timer (spec/42_busygate.md R140 to R151). Its Bool answer
is true where the panel was seen not busy. -/

namespace Sys2Proof.Machine

/-- The gate begins: with a busy pin, `gate_start <- now; gate_limit <- T`; without one, nothing (R142,
R143). -/
def State.openGate (s : State) (t : Nat) : State :=
  { s with
    gateStart := if s.cfg.hasBusy then s.now else s.gateStart
    gateLimit := if s.cfg.hasBusy then t else s.gateLimit }

/-- The poll loop for a busy pin, in either gate order (R143, R151). `fuel` bounds the rounds; the gate
gives it enough that the timeout ends the loop first (R146, log 25). -/
def pollLoop (order : GateOrder) : Nat → State → Bool × State
  | 0, s => (false, s)
  | fuel + 1, s =>
    match order with
    | .timeoutFirst =>
      if s.gateExpired then (false, s.raiseBusyTimeout)
      else if s.sampleBusy.busy = false then (true, s.sampleBusy)
      else pollLoop order fuel (s.sampleBusy.delay Config.pollInterval)
    | .sampleFirst =>
      if s.sampleBusy.busy = false then (true, s.sampleBusy)
      else if s.sampleBusy.gateExpired then (false, s.sampleBusy.raiseBusyTimeout)
      else pollLoop order fuel (s.sampleBusy.delay Config.pollInterval)

/-- Enough rounds for a gate that runs by its registers (R146, log 25). -/
def State.pollRounds (s : State) : Nat := (s.gateStart + s.gateLimit - s.now) / Config.pollInterval + 2

/-- The gate from where its registers say it stands: at once true without a busy pin (R142), else the poll
loop. -/
def State.pollGate (s : State) : Bool × State :=
  if s.cfg.hasBusy then pollLoop s.cfg.gateOrder s.pollRounds s else (true, s)

/-- `gate(T)` (R140). -/
def State.gate (s : State) (t : Nat) : Bool × State := (s.openGate t).pollGate

end Sys2Proof.Machine
end

