-- ==== Sys2Proof/Machine/Operands.lean ====
section
/-! DEFINITION. Operand forms: the pixel address decoder (spec/20_memory.md R53 to R57), colours (R56, R101),
and the bytes a sequence computes from the profile and the framebuffer (spec/43_refresh.md R169, R177). -/

namespace Sys2Proof.Machine

/-- The in-bounds test, on the signed coordinates (R53). -/
def inBounds (p : Profile) (x y : Int) : Bool :=
  decide (0 ≤ x ∧ 0 ≤ y ∧ x < p.width ∧ y < p.height)

/-- `byte_index(x, y) = (x + y*width) / 8`, over exact integers, for an in-bounds pixel (R54, R57). -/
def byteIndex (p : Profile) (x y : Int) : Nat := (x.toNat + y.toNat * p.width) / 8

/-- `bit_pos(x, y) = 7 - (x mod 8)`, for an in-bounds pixel (R55). -/
def bitPos (x : Int) : Fin 8 := ⟨7 - x.toNat % 8, by omega⟩

/-- The pixel address decoder (R55). -/
def decodePixel (p : Profile) (x y : Int) : Option (Nat × Fin 8) :=
  if inBounds p x y then some (byteIndex p x y, bitPos x) else none

/-- Bit `k` of a byte, made the colour's: black clears it, white sets it (R56, R100). -/
def paintBit (c : Colour) (k : Fin 8) (v : Byte) : Byte :=
  match c with
  | .black => v &&& ~~~(1#8 <<< k.val)
  | .white => v ||| (1#8 <<< k.val)

/-- The byte FILL writes (R101). -/
def fillByte : Colour → Byte
  | .black => 0x00#8
  | .white => 0xFF#8

/-- `colored(x, y)`, the read-back predicate of R56, for an in-bounds pixel whose byte exists. -/
def colored (p : Profile) (m : Memory) (x y : Int) : Option Bool :=
  match decodePixel p x y with
  | some (i, k) => (m.read i).map (fun v => !v.getLsbD k.val)
  | none => none

/-- `xe = width/8 - 1`, the X window end in byte units (R169). -/
def xWindowEnd (p : Profile) : Byte := BitVec.ofNat 8 (p.width / 8 - 1)

/-- `ye = height - 1`, the Y window end in row units (R169). -/
def yWindowEnd (p : Profile) : BitVec 16 := BitVec.ofNat 16 (p.height - 1)

/-- The nibble of a source bit in the 7.5" transform (R177). -/
def toneNibble (tone : BitVec 4) (bit : Bool) : BitVec 4 := if bit then tone else 0#4

/-- `expand_byte(v)[k]`: the pair of bits `7 - 2k` and `6 - 2k`, the first in the high nibble (R177). -/
def expandPair (tone : BitVec 4) (v : Byte) (k : Nat) : Byte :=
  toneNibble tone (v.getLsbD (7 - 2 * k)) ++ toneNibble tone (v.getLsbD (6 - 2 * k))

/-- `expand_byte(v)`, the four bytes of the 7.5" bit-doubling transform (R177). -/
def expandByte (tone : BitVec 4) (v : Byte) : List Byte :=
  [expandPair tone v 0, expandPair tone v 1, expandPair tone v 2, expandPair tone v 3]

end Sys2Proof.Machine
end

