-- ==== Sys2Proof/Machine/Sequencer.lean ====
section
/-! DEFINITION. The sequences of SETUP, DISPLAY and WAIT as ordered sub-steps (spec/10_state.md R21,
spec/43_refresh.md R161 to R179), the bus traffic of each, and the sequencer that runs them. -/

namespace Sys2Proof.Machine

/-! ### The bus traffic of each sub-step -/

/-- A list of (command byte, data bytes) pairs, sent verbatim and in order (R163, R164). -/
def scriptTxs (cs : List Command) : List Tx := cs.flatMap (fun c => commandTxs c.code c.data)

/-- `write_lut(t)` (R168). -/
def writeLutTxs (c : Config) (table : List Byte) : List Tx := commandTxs c.cmdCode.writeLut table

/-- What the LUT mode dispatch sends at counter value `counter`: the full table at 0, the partial table at
1, else nothing; nothing at all with `N < 2` (R167). -/
def dispatchTxs (c : Config) (counter : BitVec 32) : List Tx :=
  if lutSwitching c.fullUpdateEvery && fullDue counter != prevFull counter then
    writeLutTxs c (if fullDue counter then c.profile.lutFull else c.profile.lutPartial)
  else []

/-- The counter after the LUT mode dispatch (R167). -/
def dispatchCounter (c : Config) (counter : BitVec 32) : BitVec 32 :=
  if lutSwitching c.fullUpdateEvery then nextCounter c.fullUpdateEvery counter else counter

/-- The addressable window, the full panel (R169). -/
def windowTxs (c : Config) : List Tx :=
  commandTxs c.cmdCode.setXWindow [0x00#8, xWindowEnd c.profile]
    ++ commandTxs c.cmdCode.setYWindow
        [0x00#8, 0x00#8, (yWindowEnd c.profile).extractLsb' 0 8, (yWindowEnd c.profile).extractLsb' 8 8]

/-- The address counters, to the origin (R170). -/
def counterTxs (c : Config) : List Tx :=
  commandTxs c.cmdCode.setXCounter [0x00#8] ++ commandTxs c.cmdCode.setYCounter [0x00#8, 0x00#8]

/-- The whole framebuffer under the "write RAM" command, in ascending index order (R172). -/
def ramTxs (c : Config) (m : Memory) : List Tx := commandTxs c.cmdCode.writeRam m.bytes

/-- Update control with its data, master activation, frame terminate (R173). -/
def updateTxs (c : Config) : List Tx :=
  commandTxs c.cmdCode.updateControl c.updateCtrlData
    ++ [cmdTx c.cmdCode.masterActivation, cmdTx c.cmdCode.terminateFrame]

/-- The data bytes of one plane: the framebuffer, each byte expanded to four for the 7.5" strategy (R176,
R177). -/
def planeBytes (c : Config) (m : Memory) : List Byte :=
  match c.profile.strategy with
  | .b75 => m.bytes.flatMap (expandByte c.toneOn)
  | .b   => m.bytes
  | .a   => m.bytes

/-- `plane(c, expand)` under the command byte `code` (R176). -/
def planeTxs (c : Config) (code : Byte) (m : Memory) : List Tx := commandTxs code (planeBytes c m)

/-! ### The effect of each sub-step -/

/-- The LUT mode dispatch: the table, if one is due, and the counter's advance (R167). -/
def State.dispatchLut (s : State) : State :=
  (s.send (dispatchTxs s.cfg s.modeCounter)).setCounter (dispatchCounter s.cfg s.modeCounter)

/-- What one sub-step does, and whether the sequence goes on after it: only a gate that fails ends a
sequence early (R21, R160). -/
def runStep (k : SeqStep) (s : State) : Bool × State :=
  match k with
  | .pulseLow   => (true, (s.driveRst false).delay Config.rstLowTime)
  | .pulseHigh  => (true, (s.driveRst true).delay Config.rstSettleTime)
  | .initScript => (true, s.send (scriptTxs s.cfg.profile.initScript))
  | .setupLuts  => (true, s.send (scriptTxs s.cfg.profile.setupLuts))
  | .waitPoll   => s.pollGate
  | .a1         => (true, s.openGate Config.waitTimeout)
  | .a1Poll     => s.pollGate
  | .a2         => (true, s.dispatchLut)
  | .a3         => (true, s.send (windowTxs s.cfg ++ counterTxs s.cfg))
  | .a4         => (true, s.openGate Config.waitTimeout)
  | .a4Poll     => s.pollGate
  | .a5         => (true, s.send (ramTxs s.cfg s.fb))
  | .a6         => (true, s.send (updateTxs s.cfg))
  | .a7         => (true, s.setStatus .nominal)
  | .b1         => (true, s.openGate Config.waitTimeout)
  | .b1Poll     => s.pollGate
  | .b2         => (true, s.send (planeTxs s.cfg s.cfg.cmdCode.dataTx1 s.fb))
  | .b3         => (true, s.send (planeTxs s.cfg s.cfg.cmdCode.dataTx2 s.fb))
  | .b4         => (true, s.send [cmdTx s.cfg.cmdCode.displayRefresh])
  | .b5         => (true, s.setStatus .nominal)

/-! ### The sequences -/

/-- SETUP's sub-steps: the pulse if there is a reset pin, the script, the LUTs (R161). -/
def setupSteps (c : Config) : List SeqStep :=
  if c.hasReset then [.pulseLow, .pulseHigh, .initScript, .setupLuts] else [.initScript, .setupLuts]

/-- The sub-steps of strategy A (R166 to R174). -/
def displayStepsA : List SeqStep := [.a1, .a1Poll, .a2, .a3, .a4, .a4Poll, .a5, .a6, .a7]

/-- The sub-steps of strategies B and B75, with two planes or one (R175). -/
def displayStepsB : Planes → List SeqStep
  | .two => [.b1, .b1Poll, .b2, .b3, .b4, .b5]
  | .one => [.b1, .b1Poll, .b2, .b4, .b5]

/-- DISPLAY's sub-steps, by the profile's strategy (R165). -/
def displaySteps (c : Config) : List SeqStep :=
  match c.profile.strategy with
  | .a   => displayStepsA
  | .b   => displayStepsB .two
  | .b75 => displayStepsB c.b75Planes

/-- WAIT's sub-steps after its gate has begun (R147). -/
def waitSteps : List SeqStep := [.waitPoll]

/-- The sequence a phase runs (R21, R160). -/
def stepsOfPhase (c : Config) : Phase → List SeqStep
  | .setup      => setupSteps c
  | .refreshing => displaySteps c
  | .waiting    => waitSteps
  | .uninit     => []
  | .idle       => []

/-- A sequence ends, having completed or having had a gate fail: SETUP leaves for IDLE with value 0 (R161),
WAIT for the phase it came from with the gate's answer (R147), DISPLAY for IDLE with value 1, or by the abort
(R165, R207). -/
def State.endSequence (s : State) (ok : Bool) : State :=
  match s.phase with
  | .setup      => s.complete .idle 0#16
  | .refreshing => if ok then s.complete .idle 1#16 else s.abort
  | .waiting    => s.complete s.gateReturn (boolValue ok)
  | .uninit     => s
  | .idle       => s

/-- The sequencer: the sub-steps in order, to the end or to the first gate that fails (R21, R64, R207). -/
def runSequence : List SeqStep → State → State
  | [], s => s.endSequence true
  | k :: ks, s =>
    match runStep k (s.atStep k) with
    | (true, t)  => runSequence ks t
    | (false, t) => t.endSequence false

/-- The sub-steps from `k` on, if `k` is one of them. -/
def stepsFrom (k : SeqStep) : List SeqStep → Option (List SeqStep)
  | [] => none
  | j :: js => if j = k then some (j :: js) else stepsFrom k js

/-- The sub-steps a running sequence has still to run, from the one in progress (R21). -/
def State.remainingSteps (s : State) : Option (List SeqStep) :=
  s.seqStep.bind (fun k => stepsFrom k (stepsOfPhase s.cfg s.phase))

/-- A running sequence goes on, from the sub-step in progress to its end (R64, R87, log 13, 15). -/
def resumeSequence (s : State) : Result :=
  match s.remainingSteps with
  | some ks => .next (runSequence ks s)
  | none => .fault .noSuchStep

end Sys2Proof.Machine
end

