-- ==== Sys2Proof/Machine/BusyGate.lean ====
section
/-! DEFINITION. The request WAIT (spec/42_busygate.md R147). -/

namespace Sys2Proof.Machine

/-- WAIT begins: `gate_return <- phase; phase <- WAITING`, and its gate begins (R147). -/
def State.beginWait (s : State) (t : Nat) : State :=
  ({ s with gateReturn := s.phase }.beginSequence .waiting).openGate t

/-- WAIT: wait until the panel is not busy, or time out; `status` is not touched (R147, R148). -/
def execWait (t : Nat) (s : State) : Result := .next (runSequence waitSteps (s.beginWait t))

end Sys2Proof.Machine
end

