-- ==== Sys2Proof/Machine/Framebuffer.lean ====
section
/-! DEFINITION. The framebuffer requests SETPX, FILL, LEN and RDBYTE (spec/40_framebuffer.md). None touches the
bus, `status`, `mode_counter` or `phase`, and each completes in the instant it is accepted. -/

namespace Sys2Proof.Machine

/-- The framebuffer holds `v` at byte `i`: `MemWrite(i, 1, v)` on the state (R12). -/
def State.memWrite (s : State) (i : Nat) (v : Byte) : State := { s with fb := s.fb.write i v }

/-- Every framebuffer byte becomes `v` (R101). -/
def State.memFill (s : State) (v : Byte) : State := { s with fb := s.fb.fill v }

/-- SETPX: set one pixel, or nothing where it is out of bounds (R100). -/
def execSetpx (x y : Int) (c : Colour) (s : State) : Result :=
  match decodePixel s.cfg.profile x y with
  | none => .next (s.respond .ok 0#16)
  | some (i, k) =>
    match s.fb.read i with
    | none => .fault .outsideFramebuffer
    | some v => .next ((s.memWrite i (paintBit c k v)).respond .ok 0#16)

/-- FILL: fill the whole framebuffer (R101). -/
def execFill (c : Colour) (s : State) : Result :=
  .next ((s.memFill (fillByte c)).respond .ok 0#16)

/-- LEN: the framebuffer's length (R102). -/
def execLen (s : State) : Result :=
  .next (s.respond .ok (BitVec.ofNat 16 (byteLength s.cfg.profile)))

/-- RDBYTE: one framebuffer byte, or `ERR_RANGE` (R103, R204). -/
def execRdbyte (i : Nat) (s : State) : Result :=
  if byteLength s.cfg.profile ≤ i then .next (s.reject .errRange)
  else
    match s.fb.read i with
    | none => .fault .outsideFramebuffer
    | some v => .next (s.respond .ok (v.setWidth 16))

end Sys2Proof.Machine
end

