-- ==== Sys2Proof/Machine/Refresh.lean ====
section
/-! DEFINITION. The requests SETUP, DISPLAY and STATUS (spec/43_refresh.md R161, R165, R180). -/

namespace Sys2Proof.Machine

/-- SETUP: reset the panel and run the profile's initialisation, once (R161, R203). -/
def execSetup (s : State) : Result :=
  if s.phase = .uninit then .next (runSequence (setupSteps s.cfg) (s.beginSequence .setup))
  else .next (s.reject .errSeq)

/-- DISPLAY: refresh the panel from the framebuffer (R165, R203). -/
def execDisplay (s : State) : Result :=
  if s.phase = .uninit then .next (s.reject .errSeq)
  else .next (runSequence (displaySteps s.cfg) (s.beginSequence .refreshing))

/-- STATUS: read the degraded flag (R180). -/
def execStatus (s : State) : Result := .next (s.respond .ok (statusValue s.status))

end Sys2Proof.Machine
end

