-- ==== Sys2Proof/Machine/Dispatch.lean ====
section
/-! DEFINITION. One arm per request, each a direct call of its meaning. -/

namespace Sys2Proof.Machine

def exec (i : Instr) (s : State) : Host.Outcome State Fault Refusal :=
  match i with
  | .setpx x y c => Sys2Proof.Machine.execSetpx x y c s
  | .fill c => Sys2Proof.Machine.execFill c s
  | .len => Sys2Proof.Machine.execLen s
  | .rdbyte n => Sys2Proof.Machine.execRdbyte n s
  | .cmd b => Sys2Proof.Machine.execCmd b s
  | .data b => Sys2Proof.Machine.execData b s
  | .wait t => Sys2Proof.Machine.execWait t s
  | .setup => Sys2Proof.Machine.execSetup s
  | .display => Sys2Proof.Machine.execDisplay s
  | .status => Sys2Proof.Machine.execStatus s

end Sys2Proof.Machine
end

