-- ==== Sys2Proof/Decode.lean ====
section
/-! DEFINITION. The request decoder (spec/30_encoding.md R70 to R80), total on every word and rejecting by
name, then the encoder, the mask and match rows of R77, and the assembler's forms (R82, R86). -/

namespace Sys2Proof

/-- Why a word is illegal (R77). -/
inductive DecodeError where
  /-- opcode 0x0 or 0xB to 0xF -/
  | unassignedOpcode
  /-- an assigned opcode with a reserved bit set -/
  | reservedBitSet
  deriving DecidableEq, Repr

/-- The opcode `w[31:28]` (R70). -/
def opcodeOf (w : Word) : BitVec 4 := w.extractLsb' 28 4

/-- The colour bit `w[27]` (R72, R73). -/
def colourOf (w : Word) : Colour := if w.getLsbD 27 then .black else .white

/-- `x = sext_12(w[11:0])` (R79). -/
def xOf (w : Word) : Int := (w.extractLsb' 0 12).toInt

/-- `y = sext_12(w[23:12])` (R79). -/
def yOf (w : Word) : Int := (w.extractLsb' 12 12).toInt

/-- `imm16 = zext_16(w[15:0])` (R79). -/
def imm16Of (w : Word) : Nat := (w.extractLsb' 0 16).toNat

/-- `b = w[7:0]` (R79). -/
def byteOf (w : Word) : Byte := w.extractLsb' 0 8

/-- The request, where the format's reserved bits are all 0 (R71, R77). -/
def checked (reserved : Bool) (i : Instr) : Except DecodeError Instr :=
  if reserved then .ok i else .error .reservedBitSet

/-- The request decoder (R77, R80). -/
def decode (w : Word) : Except DecodeError Instr :=
  match (opcodeOf w).toNat with
  | 0x1 => checked (w.extractLsb' 24 3 == 0#3) (.setpx (xOf w) (yOf w) (colourOf w))
  | 0x2 => checked (w.extractLsb' 0 27 == 0#27) (.fill (colourOf w))
  | 0x3 => checked (w.extractLsb' 0 28 == 0#28) .len
  | 0x4 => checked (w.extractLsb' 16 12 == 0#12) (.rdbyte (imm16Of w))
  | 0x5 => checked (w.extractLsb' 8 20 == 0#20) (.cmd (byteOf w))
  | 0x6 => checked (w.extractLsb' 8 20 == 0#20) (.data (byteOf w))
  | 0x7 => checked (w.extractLsb' 16 12 == 0#12) (.wait (imm16Of w))
  | 0x8 => checked (w.extractLsb' 0 28 == 0#28) .setup
  | 0x9 => checked (w.extractLsb' 0 28 == 0#28) .display
  | 0xA => checked (w.extractLsb' 0 28 == 0#28) .status
  | _ => .error .unassignedOpcode

/-- The word of a request whose `nbits` bits are `w`, numbered as the opcode table numbers them; the bits
above are 0 (R81: a request is always one word). -/
def tableWord (nbits w : Nat) : Word := BitVec.ofNat 32 (w % 2 ^ nbits)

/-- What the decoder reads from those bits. -/
def decodeTableWord (nbits w : Nat) : Option Instr := (decode (tableWord nbits w)).toOption

/-- The colour bit of R72 and R73. -/
def colourBit : Colour → BitVec 1
  | .black => 1#1
  | .white => 0#1

/-- Format P (R71). -/
def encodeP (op : BitVec 4) (c : Colour) (y x : BitVec 12) : Word :=
  op ++ colourBit c ++ 0#3 ++ y ++ x

/-- Format F (R71). -/
def encodeF (op : BitVec 4) (c : Colour) : Word := op ++ colourBit c ++ 0#27

/-- Format I16 (R71). -/
def encodeI16 (op : BitVec 4) (imm : BitVec 16) : Word := op ++ 0#12 ++ imm

/-- Format B (R71). -/
def encodeB (op : BitVec 4) (b : Byte) : Word := op ++ 0#20 ++ b

/-- Format N (R71). -/
def encodeN (op : BitVec 4) : Word := op ++ 0#28

/-- The word of a request, written from the format and opcode tables of R71 and R77. -/
def encode : Instr → Word
  | .setpx x y c => encodeP 0x1#4 c (BitVec.ofInt 12 y) (BitVec.ofInt 12 x)
  | .fill c      => encodeF 0x2#4 c
  | .len         => encodeN 0x3#4
  | .rdbyte i    => encodeI16 0x4#4 (BitVec.ofNat 16 i)
  | .cmd b       => encodeB 0x5#4 b
  | .data b      => encodeB 0x6#4 b
  | .wait t      => encodeI16 0x7#4 (BitVec.ofNat 16 t)
  | .setup       => encodeN 0x8#4
  | .display     => encodeN 0x9#4
  | .status      => encodeN 0xA#4

/-- A row of the opcode map: its mask and its match (R77). -/
structure OpcodeRow where
  mask    : Word
  pattern : Word
  deriving DecidableEq, Repr

/-- The row a request belongs to (R77). -/
def opcodeRow : Instr → OpcodeRow
  | .setpx _ _ _ => ⟨0xF7000000#32, 0x10000000#32⟩
  | .fill _      => ⟨0xF7FFFFFF#32, 0x20000000#32⟩
  | .len         => ⟨0xFFFFFFFF#32, 0x30000000#32⟩
  | .rdbyte _    => ⟨0xFFFF0000#32, 0x40000000#32⟩
  | .cmd _       => ⟨0xFFFFFF00#32, 0x50000000#32⟩
  | .data _      => ⟨0xFFFFFF00#32, 0x60000000#32⟩
  | .wait _      => ⟨0xFFFF0000#32, 0x70000000#32⟩
  | .setup       => ⟨0xFFFFFFFF#32, 0x80000000#32⟩
  | .display     => ⟨0xFFFFFFFF#32, 0x90000000#32⟩
  | .status      => ⟨0xFFFFFFFF#32, 0xA0000000#32⟩

/-- The ten rows of the opcode map, in the table's order (R77). -/
def opcodeMap : List OpcodeRow :=
  [opcodeRow (.setpx 0 0 .white), opcodeRow (.fill .white), opcodeRow .len, opcodeRow (.rdbyte 0),
   opcodeRow (.cmd 0), opcodeRow (.data 0), opcodeRow (.wait 0), opcodeRow .setup,
   opcodeRow .display, opcodeRow .status]

/-- `(w & mask) = match` (R77). -/
def rowMatches (w : Word) (r : OpcodeRow) : Bool := w &&& r.mask == r.pattern

/-- What the assembler makes of a request: its word, or an assembly error (none) where an operand is out
of its field's range (R82). -/
def assemble (i : Instr) : Option Word := if i.wf then some (encode i) else none

/-- The expansion of a pseudo-instruction (R86). -/
def expandPseudo : Pseudo → List Instr
  | .dataBytes bs => bs.map .data
  | .waitDefault  => [.wait 1000]
  | .send c ds    => .cmd c :: ds.map .data
  | .clear        => [.fill .white]

/-- The colour operand as R82 writes it. -/
def colourText : Colour → String
  | .black => "BLACK"
  | .white => "WHITE"

/-- The assembler form of a request, with decimal numbers (R82). -/
def asmText : Instr → String
  | .setpx x y c => "SETPX " ++ toString x ++ ", " ++ toString y ++ ", " ++ colourText c
  | .fill c      => "FILL " ++ colourText c
  | .len         => "LEN"
  | .rdbyte i    => "RDBYTE " ++ toString i
  | .cmd b       => "CMD " ++ toString b.toNat
  | .data b      => "DATA " ++ toString b.toNat
  | .wait t      => "WAIT " ++ toString t
  | .setup       => "SETUP"
  | .display     => "DISPLAY"
  | .status      => "STATUS"

end Sys2Proof
end

