-- ==== Sys2Proof/Machine/Port.lean ====
section
/-! DEFINITION. The request port's side of a step (spec/30_encoding.md R87): what an illegal word is answered,
what an engine does with no request before it, how an engine is built, and how a word is placed at the
port. -/

namespace Sys2Proof.Machine

/-- An illegal word is answered `ERR_ILLEGAL` and has no effect (R77, R202). -/
def answerIllegal (s : State) : Result := .next (s.reject .errIllegal)

/-- With no request at the port a ready engine waits: one tick passes (R220, log 11). -/
def waitForRequest (s : State) : Result := .next (s.delay 1)

/-- The word of `nbits` bits `w` is the next the host presents, with no tick before it (log 11). -/
def State.placeRequest (s : State) (nbits w : Nat) : State :=
  { s with requests := { gap := 0, word := tableWord nbits w } :: s.requests }

/-- Construction: an engine is built with one of the six profiles in an admitted configuration, whatever its
framebuffer happens to hold, and any other configuration is refused (R8, R29, R201, R220, R222). -/
def construct (c : Config) (m : Memory) : Result :=
  if configWf c && m.wf (byteLength c.profile) then .next (State.resetWith c m)
  else .refused .illFormedProfile

end Sys2Proof.Machine
end

