-- ==== Sys2Proof/Machine/Step.lean ====
section
/-! DEFINITION. One step of the engine: one request, taken and run to completion (spec/20_memory.md R64,
spec/30_encoding.md R87, log 13). -/

namespace Sys2Proof.Machine

/-- A ready port takes the next request: an illegal word is answered `ERR_ILLEGAL` (R202), a legal one is
executed. With no request, a tick passes. While a sequence runs the port takes none (R87), and the step is
the rest of that sequence. -/
def step (s : State) : Host.Outcome State Fault Refusal :=
  if s.portReady then
    match s.requests with
    | [] => waitForRequest s
    | r :: rs =>
      match decode r.word with
      | .ok i => exec i (s.accept r rs)
      | .error _ => answerIllegal (s.accept r rs)
  else resumeSequence s

/-- `s` with the word of `nbits` bits `w` as the next request at its port (log 11). -/
def State.withFetchWord (s : State) (nbits w : Nat) : State := s.placeRequest nbits w

end Sys2Proof.Machine
end

