-- ==== Sys2Proof/Safety.lean ====
section
/-! DEFINITION. What a state of an engine satisfies between two requests, in the terms claims use. -/

namespace Sys2Proof.Machine

/-- The line drives an event of `trace` stands for: a bus transaction's, else none (R120, R121). -/
def eventWire (c : Config) : Event → List LineEvent
  | .cmd b => txWire c (cmdTx b)
  | .data b => txWire c (dataTx b)
  | .rst _ => []
  | .sample _ _ => []
  | .busyTimeout => []

/-- Where the mode counter may stand: below `N` where the profile is of strategy A and `N >= 2`, else at its
reset value (R24, R181, R183). -/
def counterLegal (c : Config) (counter : BitVec 32) : Prop :=
  if c.profile.strategy = .a ∧ 2 ≤ c.fullUpdateEvery.toNat then
    counter.toNat < c.fullUpdateEvery.toNat
  else counter = 0#32

/-- The framebuffer is exactly the `L` bytes of the profile, in canonical form (R23, R50). -/
def State.fbWf (s : State) : Prop := s.fb.wf (byteLength s.cfg.profile) = true

/-- The invariant of an engine between two requests. -/
structure Inv (s : State) : Prop where
  /-- its profile is well-formed (R29); that it is one of the six (R8) no statement needs -/
  profile : s.cfg.profile.wf = true
  /-- its framebuffer has every byte once (R23) -/
  framebuffer : s.fbWf
  /-- it runs no sequence (R64, R87) -/
  ready : s.portReady = true
  /-- so no step index stands (R21) -/
  noStep : s.seqStep = none
  /-- its mode counter is legal (R181, R183) -/
  counter : counterLegal s.cfg s.modeCounter
  /-- before SETUP no refresh has run (R160, R203) -/
  fresh : s.phase = .uninit → s.status = .nominal ∧ s.modeCounter = 0#32
  /-- `gate_return ∈ {UNINIT, IDLE}` (R36) -/
  returnPhase : s.gateReturn = .uninit ∨ s.gateReturn = .idle
  /-- outside a transaction `cs_n` is 1 and `sclk` and `mosi` are idle (R130) -/
  busIdle : s.csN = true ∧ s.sclk = s.cfg.bus.sclkIdle ∧ s.mosi = s.cfg.bus.mosiIdle
  /-- RST is released outside the reset pulse (R162, R223) -/
  resetReleased : s.rstN = true
  /-- no gate began in the future (R143) -/
  gateBegan : s.gateStart ≤ s.now
  /-- the lines moved exactly as the transactions of `trace` say, in order (R66, R121) -/
  framing : s.wire = s.trace.flatMap (eventWire s.cfg)

end Sys2Proof.Machine
end

