-- ==== Sys2Proof/Certificates/Slice0/Obligations.lean ====
section
/-! DEFINITION. The statements for the provers. First the words they are written in, then one
`def Obligations.<Name> : Prop` each. -/

namespace Sys2Proof.Claims

open Sys2Proof Sys2Proof.Machine

/-- The requests of a list, executed one after another, to the first stop. -/
def runInstrs : List Instr → State → Result
  | [], s => .next s
  | i :: is, s =>
    match exec i s with
    | .next t => runInstrs is t
    | .fault r => .fault r
    | .refused r => .refused r

/-- An outcome with its next state changed by `f`. -/
def mapNext (f : State → State) : Result → Result
  | .next t => .next (f t)
  | .fault r => .fault r
  | .refused r => .refused r

/-- Whether an event is a bus transaction (R121). -/
def isBusEvent : Event → Bool
  | .cmd _ => true
  | .data _ => true
  | .rst _ => false
  | .sample _ _ => false
  | .busyTimeout => false

/-- One command byte and its data bytes, as events. -/
def commandEvents (code : Byte) (ds : List Byte) : List Event := .cmd code :: ds.map .data

/-- The level `dc` has after the transactions among some events (R121, R124). -/
def lastDc (c : Config) : Level → List Event → Level
  | old, [] => old
  | _, .cmd _ :: es => lastDc c c.dcCmdLevel es
  | _, .data _ :: es => lastDc c (!c.dcCmdLevel) es
  | old, .rst _ :: es => lastDc c old es
  | old, .sample _ _ :: es => lastDc c old es
  | old, .busyTimeout :: es => lastDc c old es

/-- `s` after some events: they end `trace`, their transactions end the line history, and `dc` has the
level of the last transaction. Every other field is as in `s`. -/
def withEvents (s : State) (es : List Event) : State :=
  { s with
    dc := lastDc s.cfg s.dc es
    trace := s.trace ++ es
    wire := s.wire ++ es.flatMap (eventWire s.cfg) }

/-- The number of the last sample a gate of `t` units may take, counted from 0: `t/10` where the timeout is
tested first (R144), one more where the sample is taken first (R151). -/
def lastSample : GateOrder → Nat → Nat
  | .timeoutFirst, t => t / 10
  | .sampleFirst, t => t / 10 + 1

/-- The events of `n` samples that a gate takes from time `t` on, ten units apart, the first of them the
`k`-th sample still to come in `s` (R144). -/
def sampleEvents (s : State) (t k n : Nat) : List Event :=
  (List.range n).map (fun j => .sample (t + 10 * j) (s.upcomingBusy (k + j)))

/-- The `k`-th sample to come, and no sample from the `first` to it, reads not busy. -/
def firstNotBusy (s : State) (first k : Nat) : Prop :=
  (∀ j, first ≤ j → j < k → s.upcomingBusy j = true) ∧ first ≤ k ∧ s.upcomingBusy k = false

/-- `s` after `n` more samples of BUSY, the last of them read as `v`. -/
def afterSamples (s : State) (n : Nat) (v : Level) : State :=
  { s with busy := v, busyIn := s.busyIn.drop n, samples := s.samples + n }

/-- `s` with the gate registers of a gate of `t` units begun at `start` (R143). -/
def gateRegs (s : State) (start t : Nat) : State := { s with gateStart := start, gateLimit := t }

/-- `s` at a later time. -/
def atTime (s : State) (t : Nat) : State := { s with now := t }

/-- `s` idle after a sequence, with its response. -/
def idleAfter (s : State) (value : BitVec 16) : State :=
  { s with phase := .idle, seqStep := none, response := some (responseWord .ok value) }

/-- What strategy A's LUT dispatch sends at a counter value (R167, R168). -/
def lutEvents (c : Config) (counter : Nat) : List Event :=
  if 2 ≤ c.fullUpdateEvery.toNat then
    if counter = 0 then commandEvents c.cmdCode.writeLut c.profile.lutFull
    else if counter = 1 then commandEvents c.cmdCode.writeLut c.profile.lutPartial
    else []
  else []

/-- The counter after strategy A's LUT dispatch (R167). -/
def counterAfter (c : Config) (counter : BitVec 32) : BitVec 32 :=
  if 2 ≤ c.fullUpdateEvery.toNat then
    BitVec.ofNat 32 ((counter.toNat + 1) % c.fullUpdateEvery.toNat)
  else counter

/-- The window and counter transactions of strategy A (R169, R170, decision D13). -/
def windowEvents (c : Config) : List Event :=
  commandEvents c.cmdCode.setXWindow [0, BitVec.ofNat 8 (c.profile.width / 8 - 1)]
    ++ commandEvents c.cmdCode.setYWindow
      [0, 0, BitVec.ofNat 8 (c.profile.height - 1), BitVec.ofNat 8 ((c.profile.height - 1) / 256)]
    ++ commandEvents c.cmdCode.setXCounter [0]
    ++ commandEvents c.cmdCode.setYCounter [0, 0]

/-- The frame and the commands after it, of strategy A (R172, R173). -/
def frameEventsA (c : Config) (bs : List Byte) : List Event :=
  commandEvents c.cmdCode.writeRam bs
    ++ commandEvents c.cmdCode.updateControl c.updateCtrlData
    ++ [.cmd c.cmdCode.masterActivation, .cmd c.cmdCode.terminateFrame]

/-- One framebuffer byte as a plane of strategy B or B75 sends it (R176, R177). -/
def planeByte (c : Config) (v : Byte) : List Byte :=
  if c.profile.strategy = .b75 then
    (List.range 4).map (fun k =>
      (if v.getLsbD (7 - 2 * k) then c.toneOn else 0#4)
        ++ (if v.getLsbD (6 - 2 * k) then c.toneOn else 0#4))
  else [v]

/-- The traffic of a completed DISPLAY of strategy B or B75 (R175, R176, R179). -/
def frameEventsB (c : Config) (bs : List Byte) : List Event :=
  commandEvents c.cmdCode.dataTx1 (bs.flatMap (planeByte c))
    ++ (if c.profile.strategy = .b75 ∧ c.b75Planes = .one then []
        else commandEvents c.cmdCode.dataTx2 (bs.flatMap (planeByte c)))
    ++ [.cmd c.cmdCode.displayRefresh]

/-- The traffic of a script (R163, R164). -/
def scriptEvents (cs : List Command) : List Event := cs.flatMap (fun c => commandEvents c.code c.data)

/-- The colour the last of some requests to touch a pixel gives it, if one does (R104). -/
def lastPaint (x y : Int) : Option Colour → List Instr → Option Colour
  | old, [] => old
  | old, .setpx x' y' c :: is => lastPaint x y (if x' = x ∧ y' = y then some c else old) is
  | _, .fill c :: is => lastPaint x y (some c) is
  | old, _ :: is => lastPaint x y old is

/-- Sub-steps of a sequence run in order without ending it, if no gate among them fails. -/
def runPart : List SeqStep → State → Option State
  | [], s => some s
  | k :: ks, s =>
    match runStep k (s.atStep k) with
    | (true, t) => runPart ks t
    | (false, _) => none

/-- A gate of 1000 units begun now would see the panel not busy: what "passes step 1" asks of a DISPLAY (R166,
R142, R144, R151). -/
def passesStepOne (s : State) : Prop :=
  s.cfg.hasBusy = false ∨ ∃ k, k ≤ lastSample s.cfg.gateOrder 1000 ∧ firstNotBusy s 0 k

/-- How long a request may take at most, in time units (R146, R234). -/
def longest (c : Config) : Instr → Nat
  | .setpx _ _ _ => 0
  | .fill _ => 0
  | .len => 0
  | .rdbyte _ => 0
  | .cmd _ => 0
  | .data _ => 0
  | .wait t => if c.hasBusy then 10 * (t / 10 + 1) else 0
  | .setup => if c.hasReset then 400 else 0
  | .display => if c.hasBusy then (if c.profile.strategy = .a then 2020 else 1010) else 0
  | .status => 0

end Sys2Proof.Claims

open Sys2Proof Sys2Proof.Machine Sys2Proof.Claims

/-! ### Encoding -/

/-- Every request an assembler admits is read back from its own word, whatever its operands (R71 to R80). -/
def Obligations.DecodeOfEncodeIsTheRequest : Prop :=
  ∀ i : Instr, i.wf = true → decode (encode i) = .ok i

/-- Every legal word is the word of the request read from it, and that request's operands are in range: a
request has one word, and decoding drops no bit (R71, R77, R82). -/
def Obligations.EncodeOfDecodeIsTheWord : Prop :=
  ∀ (w : Word) (i : Instr), decode w = .ok i → encode i = w ∧ i.wf = true

/-- Every word decodes to exactly one row of the opcode map, the one with `(w & mask) = match`, or is illegal
and matches none (R77, R80). -/
def Obligations.EveryWordMatchesItsRowOrIsIllegal : Prop :=
  ∀ w : Word,
    (∀ i, decode w = .ok i → opcodeMap.filter (rowMatches w) = [opcodeRow i])
      ∧ (∀ e, decode w = .error e → opcodeMap.filter (rowMatches w) = [])

/-- A decoded request's operands are the fields of its word, unscaled, the coordinates sign-extended and so in
`-2048 .. 2047` (R79). -/
def Obligations.OperandsAreTheWordsFields : Prop :=
  (∀ w x y c, decode w = .ok (.setpx x y c) →
      x = (w.extractLsb' 0 12).toInt ∧ y = (w.extractLsb' 12 12).toInt
        ∧ (c = if w.getLsbD 27 then .black else .white)
        ∧ -2048 ≤ x ∧ x ≤ 2047 ∧ -2048 ≤ y ∧ y ≤ 2047)
    ∧ (∀ w c, decode w = .ok (.fill c) → c = if w.getLsbD 27 then .black else .white)
    ∧ (∀ w i, decode w = .ok (.rdbyte i) → i = (w.extractLsb' 0 16).toNat)
    ∧ (∀ w t, decode w = .ok (.wait t) → t = (w.extractLsb' 0 16).toNat)
    ∧ (∀ w b, decode w = .ok (.cmd b) → b = w.extractLsb' 0 8)
    ∧ (∀ w b, decode w = .ok (.data b) → b = w.extractLsb' 0 8)

/-- The encoding examples of R83. -/
def Obligations.SpecExampleWordsDecode : Prop :=
  decode 0x18002003 = .ok (.setpx 3 2 .black) ∧ decode 0x10000FFF = .ok (.setpx (-1) 0 .white)
    ∧ decode 0x18FFF000 = .ok (.setpx 0 (-1) .black)
    ∧ decode 0x20000000 = .ok (.fill .white) ∧ decode 0x28000000 = .ok (.fill .black)
    ∧ decode 0x40001387 = .ok (.rdbyte 4999) ∧ decode 0x50000012 = .ok (.cmd 0x12)
    ∧ decode 0x600000FF = .ok (.data 0xFF) ∧ decode 0x700003E8 = .ok (.wait 1000)
    ∧ decode 0x80000000 = .ok .setup ∧ decode 0x90000000 = .ok .display
    ∧ decode 0xA0000000 = .ok .status ∧ decode 0x30000000 = .ok .len

/-! ### The step and the port -/

/-- A ready port takes the next request, after the ticks before it (log 11), and the step is that request's
execution, or, for an illegal word, the answer 0x10000000 and nothing else (R77, R87). That no response stands
while the request runs is the model's choice (log 12). -/
def Obligations.StepRunsTheDecodedRequest : Prop :=
  ∀ (s : State) (r : Request) (rs : List Request), s.portReady = true → s.requests = r :: rs →
    (∀ i, decode r.word = .ok i →
        step s = exec i { s with now := s.now + r.gap, requests := rs, response := none })
      ∧ ∀ e, decode r.word = .error e →
        step s = .next { s with now := s.now + r.gap, requests := rs, response := some 0x10000000#32 }

/-- An illegal word has no effect: every piece of state is as before, and the response is 0x10000000 (R202). -/
def Obligations.IllegalWordIsAnsweredAndHasNoEffect : Prop :=
  ∀ (s : State) (w : Word) (e : DecodeError), s.portReady = true → decode w = .error e →
    step (s.withFetchWord 32 w.toNat) = .next { s with response := some 0x10000000#32 }

/-- The word placed at the port of a ready engine is the one the next step executes (log 11); no response
stands while it runs (log 12). -/
def Obligations.PlacedWordRunsNext : Prop :=
  ∀ (s : State) (i : Instr), s.portReady = true → i.wf = true →
    step (s.withFetchWord 32 (encode i).toNat) = exec i { s with response := none }

/-- While a sequence runs the port takes no request: whatever a step does, the words the host has still to
present are as before, and so are the framebuffer and the configuration (R87, R232). -/
def Obligations.BusyPortTakesNoRequest : Prop :=
  ∀ s t : State, s.portReady = false → step s = .next t →
    t.requests = s.requests ∧ t.fb = s.fb ∧ t.cfg = s.cfg

/-- DISPLAY held at any of its sub-steps and run on from there by a step ends as the uninterrupted request
does: the sub-step index and the registers hold all that the rest of the sequence needs (R21; the sub-steps
are the model's, log 14, 15). -/
def Obligations.DisplayResumesFromEverySubStep : Prop :=
  ∀ (s t : State) (pre post : List SeqStep) (k : SeqStep),
    s.phase ≠ .uninit → displaySteps s.cfg = pre ++ k :: post →
    runPart pre (s.beginSequence .refreshing) = some t →
    step (t.atStep k) = exec .display s

/-- Every accepted request completes: from every state that meets the invariant a step answers a next state
(R235), and a request leaves a response of one of the four codes with its reserved bits 0 (R78). -/
def Obligations.EveryRequestCompletesWithAResponse : Prop :=
  ∀ s : State, Inv s →
    (∃ t, step s = .next t)
      ∧ ∀ t r rs, s.requests = r :: rs → step s = .next t →
        ∃ code value, t.response = some (responseWord code value)
          ∧ (code ≠ .ok → value = 0#16)
          ∧ (responseWord code value).extractLsb' 16 12 = 0#12
          ∧ ((responseWord code value).extractLsb' 28 4).toNat ≤ 3

/-! ### The framebuffer -/

/-- The pixel address decoder: out of bounds no address, in bounds byte `(x + y*width)/8` and bit
`7 - (x mod 8)`, over exact integers (R53, R54, R55). -/
def Obligations.PixelDecoderFollowsTheFormula : Prop :=
  ∀ (p : Profile) (x y : Int),
    (¬(0 ≤ x ∧ x < p.width ∧ 0 ≤ y ∧ y < p.height) → decodePixel p x y = none)
      ∧ (0 ≤ x ∧ x < p.width ∧ 0 ≤ y ∧ y < p.height →
          ∃ i k, decodePixel p x y = some (i, k)
            ∧ (i : Int) = (x + y * p.width) / 8 ∧ (k.val : Int) = 7 - x % 8)

/-- The decoder is a bijection: every bit of the framebuffer is the image of exactly one pixel, and every
image is a framebuffer bit (R58). -/
def Obligations.PixelDecoderIsABijection : Prop :=
  ∀ p : Profile, p.wf = true →
    (∀ x y i k, decodePixel p x y = some (i, k) → i < byteLength p)
      ∧ ∀ (i : Nat) (k : Fin 8), i < byteLength p →
          ∃ x y, decodePixel p x y = some (i, k)
            ∧ ∀ x' y', decodePixel p x' y' = some (i, k) → x' = x ∧ y' = y

/-- SETPX in bounds completes: it makes one bit of one byte the colour's (0 for black, 1 for white), leaves
every other bit and byte and every other piece of state as it was, and answers OK, 0 (R100). -/
def Obligations.SetpxPaintsExactlyOneBit : Prop :=
  ∀ (s : State) (x y : Int) (c : Colour) (i : Nat) (k : Fin 8),
    s.cfg.profile.wf = true → s.fbWf → decodePixel s.cfg.profile x y = some (i, k) →
    ∃ m v v', exec (.setpx x y c) s = .next { s with fb := m, response := some 0#32 }
      ∧ s.fb.read i = some v ∧ m.read i = some v'
      ∧ (∀ b : Fin 8, v'.getLsbD b.val = if b = k then decide (c = .white) else v.getLsbD b.val)
      ∧ ∀ j, j ≠ i → m.read j = s.fb.read j

/-- Out-of-bounds SETPX leaves everything as it was and answers OK, 0 (R106). -/
def Obligations.OutOfBoundsSetpxChangesNothing : Prop :=
  ∀ (s : State) (x y : Int) (c : Colour),
    ¬(0 ≤ x ∧ x < s.cfg.profile.width ∧ 0 ≤ y ∧ y < s.cfg.profile.height) →
    exec (.setpx x y c) s = .next { s with response := some 0#32 }

/-- FILL completes: every framebuffer byte becomes 0x00 (black) or 0xFF (white), no byte appears or goes, and
nothing else changes but the response OK, 0 (R101). -/
def Obligations.FillSetsEveryByte : Prop :=
  ∀ (s : State) (c : Colour),
    ∃ m, exec (.fill c) s = .next { s with fb := m, response := some 0#32 }
      ∧ ∀ i, m.read i = (s.fb.read i).map (fun _ => if c = .black then 0x00#8 else 0xFF#8)

/-- LEN completes: it answers `width*height/8` and writes nothing (R102, R78). -/
def Obligations.LenAnswersTheByteCount : Prop :=
  ∀ s : State, s.cfg.profile.wf = true →
    ∃ r : Word, exec .len s = .next { s with response := some r }
      ∧ r.toNat = s.cfg.profile.width * s.cfg.profile.height / 8

/-- RDBYTE completes: below L it answers the byte, from L on ERR_RANGE with value 0, and it writes nothing
(R103, R204). -/
def Obligations.RdbyteAnswersTheByteOrRangeError : Prop :=
  ∀ (s : State) (i : Nat), s.fbWf →
    (s.cfg.profile.width * s.cfg.profile.height / 8 ≤ i →
        exec (.rdbyte i) s = .next { s with response := some 0x30000000#32 })
      ∧ (i < s.cfg.profile.width * s.cfg.profile.height / 8 →
          ∃ (v : Byte) (r : Word), s.fb.read i = some v
            ∧ exec (.rdbyte i) s = .next { s with response := some r } ∧ r.toNat = v.toNat)

/-- A pixel's colour after any requests is given by the last of them to touch it, a SETPX at its coordinates
or a FILL, and is as before where none has (R104). -/
def Obligations.PixelKeepsItsLastColour : Prop :=
  ∀ (s t : State) (is : List Instr) (x y : Int),
    Inv s → inBounds s.cfg.profile x y = true → runInstrs is s = .next t →
    colored t.cfg.profile t.fb x y =
      match lastPaint x y none is with
      | some c => some (decide (c = .black))
      | none => colored s.cfg.profile s.fb x y

/-- SETPX at two different in-bounds coordinates commute, even where the two share a byte (R105). -/
def Obligations.SetpxAtDifferentPixelsCommute : Prop :=
  ∀ (s : State) (x y x' y' : Int) (c c' : Colour),
    s.cfg.profile.wf = true → s.fbWf → inBounds s.cfg.profile x y = true →
    inBounds s.cfg.profile x' y' = true → (x, y) ≠ (x', y') →
    runInstrs [.setpx x y c, .setpx x' y' c'] s = runInstrs [.setpx x' y' c', .setpx x y c] s

/-- Only SETPX and FILL write the framebuffer (R23, R208). -/
def Obligations.OnlySetpxAndFillWriteTheFramebuffer : Prop :=
  ∀ (s t : State) (i : Instr), exec i s = .next t →
    (∀ x y c, i ≠ .setpx x y c) → (∀ c, i ≠ .fill c) → t.fb = s.fb

/-! ### The framer -/

/-- CMD completes: one transaction with `dc` at the command level, `cs_n` low around the eight bits, most
significant first; the event, the answer OK, 0, and nothing else (R121, R122, R123, R125). That `sclk` and
`mosi` end at the idle levels is the model's choice (R130, log 9), and the line history is its own field (log
10). -/
def Obligations.CmdSendsOneFramedByte : Prop :=
  ∀ (s : State) (b : Byte),
    exec (.cmd b) s = .next
      { s with
        dc := s.cfg.dcCmdLevel, csN := true, sclk := s.cfg.bus.sclkIdle, mosi := s.cfg.bus.mosiIdle
        trace := s.trace ++ [.cmd b]
        wire := s.wire ++ [.dc s.cfg.dcCmdLevel, .csN false,
          .bit (b.getLsbD 7), .bit (b.getLsbD 6), .bit (b.getLsbD 5), .bit (b.getLsbD 4),
          .bit (b.getLsbD 3), .bit (b.getLsbD 2), .bit (b.getLsbD 1), .bit (b.getLsbD 0), .csN true]
        response := some 0#32 }

/-- DATA completes: as CMD, with `dc` at the other level and a data event (R121, R122, R123, R126). That `sclk`
and `mosi` end at the idle levels is the model's choice (R130, log 9), and the line history is its own field
(log 10). -/
def Obligations.DataSendsOneFramedByte : Prop :=
  ∀ (s : State) (b : Byte),
    exec (.data b) s = .next
      { s with
        dc := !s.cfg.dcCmdLevel, csN := true, sclk := s.cfg.bus.sclkIdle, mosi := s.cfg.bus.mosiIdle
        trace := s.trace ++ [.data b]
        wire := s.wire ++ [.dc (!s.cfg.dcCmdLevel), .csN false,
          .bit (b.getLsbD 7), .bit (b.getLsbD 6), .bit (b.getLsbD 5), .bit (b.getLsbD 4),
          .bit (b.getLsbD 3), .bit (b.getLsbD 2), .bit (b.getLsbD 1), .bit (b.getLsbD 0), .csN true]
        response := some 0#32 }

/-- A stream of bytes is one transaction for each byte, in order, from the first to the last (R127, R128; the
idle `sclk` and `mosi` after each and the line history are the model's choices, log 9, 10). -/
def Obligations.StreamIsOneTransactionAByte : Prop :=
  ∀ (ts : List Tx) (s : State), s.send ts = ts.foldl State.tx s

/-- The pseudo-instructions run as the requests they expand to: `SEND` is one command transaction and then one
data transaction a byte, `DATA b1, ..., bn` one data transaction a byte, `WAIT` is `WAIT 1000` and `CLEAR` is
`FILL WHITE` (R86, R127; the idle `sclk` and `mosi` after each transaction and the line history are the model's
choices, log 9, 10). -/
def Obligations.PseudoInstructionsRunAsTheirRequests : Prop :=
  (∀ (s : State) (code : Byte) (ds : List Byte),
      runInstrs (expandPseudo (.send code ds)) s
        = .next { s.send (commandTxs code ds) with response := some 0#32 })
    ∧ (∀ (s : State) (d : Byte) (ds : List Byte),
      runInstrs (expandPseudo (.dataBytes (d :: ds))) s
        = .next { s.send ((d :: ds).map dataTx) with response := some 0#32 })
    ∧ (∀ s : State, runInstrs (expandPseudo .waitDefault) s = exec (.wait 1000) s)
    ∧ ∀ s : State, runInstrs (expandPseudo .clear) s = exec (.fill .white) s

/-! ### The busy gate and WAIT -/

/-- With a busy pin, a gate is true at the first sample that reads not busy, at ten units a sample from its
start, if that is not past its last sample (R143, R144, R151). That the gate registers and `busy` then keep its
values is the model's choice (log 26, 6). -/
def Obligations.GateSucceedsAtTheFirstNotBusySample : Prop :=
  ∀ (s : State) (t k : Nat), s.cfg.hasBusy = true → k ≤ lastSample s.cfg.gateOrder t →
    firstNotBusy s 0 k →
    s.gate t = (true,
      atTime (afterSamples (gateRegs (withEvents s (sampleEvents s s.now 0 (k + 1))) s.now t) (k + 1) false)
        (s.now + 10 * k))

/-- With a busy pin, a gate whose samples all read busy is false ten units after the sample at `10*(t/10)`,
with one BusyTimeoutEvent (R143, R144, R149, R151). That the gate registers and `busy` then keep its values is
the model's choice (log 26, 6). -/
def Obligations.GateTimesOutWhenEverySampleIsBusy : Prop :=
  ∀ (s : State) (t : Nat), s.cfg.hasBusy = true →
    (∀ j, j ≤ lastSample s.cfg.gateOrder t → s.upcomingBusy j = true) →
    s.gate t = (false,
      atTime (afterSamples (gateRegs (withEvents s
          (sampleEvents s s.now 0 (lastSample s.cfg.gateOrder t + 1) ++ [.busyTimeout])) s.now t)
          (lastSample s.cfg.gateOrder t + 1) true)
        (s.now + 10 * (t / 10 + 1)))

/-- Without a busy pin a gate is true at once and changes nothing, for every timeout (R142). That the gate
registers too keep their values is the model's choice (log 26). -/
def Obligations.GateWithoutBusyPinSucceedsAtOnce : Prop :=
  ∀ (s : State) (t : Nat), s.cfg.hasBusy = false → s.gate t = (true, s)

/-- WAIT completes. Where its gate sees the panel not busy it answers OK, 1 at that sample; where every sample
reads busy it answers OK, 0 after the timeout; without a busy pin it answers OK, 1 at once. It comes back to
the phase it was accepted in, and `status`, the framebuffer, the counter and the bus lines stay (R147, R148).
That the gate registers and `busy` afterwards keep its values is the model's choice (log 26, 6). -/
def Obligations.WaitAnswersWhatItsGateSaw : Prop :=
  ∀ (s : State) (t k : Nat), s.portReady = true → s.seqStep = none →
    (s.cfg.hasBusy = false →
        exec (.wait t) s = .next { s with gateReturn := s.phase, response := some 1#32 })
      ∧ (s.cfg.hasBusy = true → k ≤ lastSample s.cfg.gateOrder t → firstNotBusy s 0 k →
        exec (.wait t) s = .next
          { atTime (afterSamples (gateRegs (withEvents s (sampleEvents s s.now 0 (k + 1))) s.now t)
              (k + 1) false) (s.now + 10 * k) with
            gateReturn := s.phase, response := some 1#32 })
      ∧ (s.cfg.hasBusy = true →
        (∀ j, j ≤ lastSample s.cfg.gateOrder t → s.upcomingBusy j = true) →
        exec (.wait t) s = .next
          { atTime (afterSamples (gateRegs (withEvents s
              (sampleEvents s s.now 0 (lastSample s.cfg.gateOrder t + 1) ++ [.busyTimeout])) s.now t)
              (lastSample s.cfg.gateOrder t + 1) true) (s.now + 10 * (t / 10 + 1)) with
            gateReturn := s.phase, response := some 0#32 })

/-! ### SETUP -/

/-- The reset pulse: with a reset pin SETUP begins with RST driven low and held for exactly 200 units, then
RST released and 200 units to settle, each with its event and nothing else; without a pin it has no pulse (R162,
R228; exactly 200 is the engine's choice in D30, log 17; the two sub-steps are the model's, log 14). -/
def Obligations.ResetPulseHoldsEachLevelFor200 : Prop :=
  (∀ c : Config, setupSteps c =
      (if c.hasReset then [.pulseLow, .pulseHigh] else []) ++ [.initScript, .setupLuts])
    ∧ (∀ s : State, runStep .pulseLow s =
      (true, { s with rstN := false, trace := s.trace ++ [.rst false], now := s.now + 200 }))
    ∧ (∀ s : State, runStep .pulseHigh s =
      (true, { s with rstN := true, trace := s.trace ++ [.rst true], now := s.now + 200 }))
    ∧ ∀ s : State, s.cfg.hasReset = true →
      runPart [.pulseLow, .pulseHigh] (s.beginSequence .setup) = some
        { s with
          phase := .setup, seqStep := some .pulseHigh, rstN := true
          trace := s.trace ++ [.rst false, .rst true], now := s.now + 400 }

/-- SETUP completes before any other SETUP: the reset pulse if there is a pin, 400 units in all, the init script
verbatim, then the setup LUTs; the engine is IDLE and answers OK, 0. It writes neither the framebuffer nor
`mode_counter` nor `status` (R161, R162, R163, R164; the pulse's length is log 17's, the idle `sclk` and `mosi`
after its traffic and the line history are the model's choices, log 9, 10). -/
def Obligations.SetupRunsPulseScriptAndLuts : Prop :=
  ∀ s : State, Inv s → s.phase = .uninit →
    exec .setup s = .next
      (idleAfter (atTime (withEvents s
          ((if s.cfg.hasReset then [.rst false, .rst true] else [])
            ++ scriptEvents s.cfg.profile.initScript ++ scriptEvents s.cfg.profile.setupLuts))
        (s.now + if s.cfg.hasReset then 400 else 0)) 0#16)

/-- SETUP out of phase UNINIT and DISPLAY in it are answered ERR_SEQ, 0x20000000, and have no effect (R203). -/
def Obligations.OutOfSequenceRequestsAreRefused : Prop :=
  ∀ s : State,
    (s.phase ≠ .uninit → exec .setup s = .next { s with response := some 0x20000000#32 })
      ∧ (s.phase = .uninit → exec .display s = .next { s with response := some 0x20000000#32 })

/-! ### DISPLAY, strategy A -/

/-- A strategy-A DISPLAY whose two gates see the panel not busy completes: LUT dispatch, window and counters,
the frame, update control, activation, terminate, in that order between its samples; the counter advances,
`status` is NOMINAL, the answer is OK, 1, and nothing else changes (R166 to R174). The layout of the window and
counter bytes is the spec's decision D13, from general knowledge (log 22); that the gate registers and `busy` keep
the last gate's values is the model's choice (log 26, 6). The idle `sclk` and `mosi` after the traffic and the line
history are the model's choices too (log 9, 10). -/
def Obligations.DisplayAStreamsTheFrame : Prop :=
  ∀ (s : State) (k l : Nat), Inv s → s.phase = .idle → s.cfg.profile.strategy = .a →
    s.cfg.hasBusy = true →
    firstNotBusy s 0 k → k ≤ lastSample s.cfg.gateOrder 1000 →
    firstNotBusy s (k + 1) l → l - (k + 1) ≤ lastSample s.cfg.gateOrder 1000 →
    exec .display s = .next
      (idleAfter
        { atTime (afterSamples (gateRegs (withEvents s
            (sampleEvents s s.now 0 (k + 1)
              ++ lutEvents s.cfg s.modeCounter.toNat ++ windowEvents s.cfg
              ++ sampleEvents s (s.now + 10 * k) (k + 1) (l - k)
              ++ frameEventsA s.cfg s.fb.bytes)) (s.now + 10 * k) 1000) (l + 1) false)
            (s.now + 10 * (l - 1)) with
          modeCounter := counterAfter s.cfg s.modeCounter, status := .nominal } 1#16)

/-- A strategy-A DISPLAY without a busy pin completes with the same traffic and no sample, in no time (R142,
R166 to R174). The layout of the window and counter bytes is the spec's decision D13, from general knowledge
(log 22); that the gate registers keep the values they had is the model's choice (log 26). The idle `sclk` and
`mosi` after the traffic and the line history are the model's choices too (log 9, 10). -/
def Obligations.DisplayAWithoutBusyPinStreamsTheFrame : Prop :=
  ∀ s : State, Inv s → s.phase = .idle → s.cfg.profile.strategy = .a → s.cfg.hasBusy = false →
    exec .display s = .next
      (idleAfter
        { withEvents s (lutEvents s.cfg s.modeCounter.toNat ++ windowEvents s.cfg
            ++ frameEventsA s.cfg s.fb.bytes) with
          modeCounter := counterAfter s.cfg s.modeCounter, status := .nominal } 1#16)

/-- A DISPLAY of any strategy whose first gate times out aborts there: BusyTimeoutEvent, `status` DEGRADED,
IDLE, answer OK, 0; no bus transaction, `mode_counter` and the framebuffer as before (R166, R175, R207). That
the gate registers and `busy` keep the failed gate's values is the model's choice (log 26, 6). -/
def Obligations.DisplayAbortsAtItsFirstGate : Prop :=
  ∀ s : State, s.phase = .idle → s.cfg.hasBusy = true →
    (∀ j, j ≤ lastSample s.cfg.gateOrder 1000 → s.upcomingBusy j = true) →
    exec .display s = .next
      (idleAfter
        { atTime (afterSamples (gateRegs (withEvents s
            (sampleEvents s s.now 0 (lastSample s.cfg.gateOrder 1000 + 1) ++ [.busyTimeout])) s.now 1000)
            (lastSample s.cfg.gateOrder 1000 + 1) true) (s.now + 1010) with
          status := .degraded } 0#16)

/-- A strategy-A DISPLAY whose second gate times out aborts there and undoes nothing: the LUT write, the
counter's advance and the window and counter transactions stand (R167 to R171, R207, R208). The layout of the
window and counter bytes is the spec's decision D13, from general knowledge (log 22); that the gate registers
and `busy` keep the failed gate's values is the model's choice (log 26, 6). The idle `sclk` and `mosi` after the
traffic and the line history are the model's choices too (log 9, 10). -/
def Obligations.DisplayAAbortsAtItsSecondGate : Prop :=
  ∀ (s : State) (k : Nat), Inv s → s.phase = .idle → s.cfg.profile.strategy = .a →
    s.cfg.hasBusy = true →
    firstNotBusy s 0 k → k ≤ lastSample s.cfg.gateOrder 1000 →
    (∀ j, j ≤ lastSample s.cfg.gateOrder 1000 → s.upcomingBusy (k + 1 + j) = true) →
    exec .display s = .next
      (idleAfter
        { atTime (afterSamples (gateRegs (withEvents s
            (sampleEvents s s.now 0 (k + 1)
              ++ lutEvents s.cfg s.modeCounter.toNat ++ windowEvents s.cfg
              ++ sampleEvents s (s.now + 10 * k) (k + 1) (lastSample s.cfg.gateOrder 1000 + 1)
              ++ [.busyTimeout])) (s.now + 10 * k) 1000)
            (k + 1 + (lastSample s.cfg.gateOrder 1000 + 1)) true) (s.now + 10 * k + 1010) with
          modeCounter := counterAfter s.cfg s.modeCounter, status := .degraded } 0#16)

/-- Over consecutive strategy-A DISPLAYs from counter 0 with `N >= 2` that all pass step 1, with or without a
busy pin and whether or not one aborts at its second gate, the counter runs `0, 1, ..., N-1, 0, ...`, and each
sends the full table at 0, the partial table at 1 and no table elsewhere, then the window, and then the frame or,
where it aborts, nothing (R167 to R174, R181, R182). The layout of the window and counter bytes is the spec's
decision D13, from general knowledge (log 22). -/
def Obligations.LutCadenceOverDisplaysThatPassStepOne : Prop :=
  ∀ (run : Nat → State) (n : Nat), Inv (run 0) → (run 0).phase = .idle →
    (run 0).cfg.profile.strategy = .a → 2 ≤ (run 0).cfg.fullUpdateEvery.toNat →
    (run 0).modeCounter = 0#32 →
    (∀ j, j < n → passesStepOne (run j) ∧ step (run j) = .next (run (j + 1))
      ∧ ∃ r rs, (run j).requests = r :: rs ∧ decode r.word = .ok .display) →
    (∀ j, j ≤ n → (run j).modeCounter.toNat = j % (run 0).cfg.fullUpdateEvery.toNat)
      ∧ ∀ j, j < n → ∃ frame,
        (run (j + 1)).trace.filter isBusEvent = (run j).trace.filter isBusEvent
            ++ lutEvents (run 0).cfg (j % (run 0).cfg.fullUpdateEvery.toNat)
            ++ windowEvents (run 0).cfg ++ frame
          ∧ ((frame = frameEventsA (run 0).cfg (run 0).fb.bytes ∧ (run (j + 1)).status = .nominal)
            ∨ (frame = [] ∧ (run (j + 1)).status = .degraded))

/-- Without a busy pin, `n` strategy-A DISPLAYs presented one after another from counter 0 with `N >= 2` all
complete, the counter runs `0, 1, ..., N-1, 0, ...`, and each sends the full table at 0, the partial table at 1
and no table elsewhere, in its exact traffic (R167 to R174, R181, R182). The layout of the window and counter
bytes is the spec's decision D13, from general knowledge (log 22). -/
def Obligations.LutCadenceHasPeriodN : Prop :=
  ∀ (s : State) (n : Nat), Inv s → s.phase = .idle → s.cfg.profile.strategy = .a →
    s.cfg.hasBusy = false → 2 ≤ s.cfg.fullUpdateEvery.toNat → s.modeCounter = 0#32 →
    s.requests = List.replicate n { gap := 0, word := 0x90000000#32 } →
    ∃ t, Sys2Proof.core.run n s = .next t
      ∧ t.modeCounter.toNat = n % s.cfg.fullUpdateEvery.toNat
      ∧ t.trace = s.trace ++ (List.range n).flatMap (fun j =>
          lutEvents s.cfg (j % s.cfg.fullUpdateEvery.toNat) ++ windowEvents s.cfg
            ++ frameEventsA s.cfg s.fb.bytes)

/-- Every strategy-A DISPLAY with `N >= 2` either aborts at step 1, with the counter as it was and no
transaction (an empty addition to the line history, log 10), or advances the counter by one modulo N; with `N < 2`
the counter never changes (R181, R183). -/
def Obligations.CounterAdvancesUnlessAbortedAtStepOne : Prop :=
  ∀ s t : State, Inv s → s.phase = .idle → s.cfg.profile.strategy = .a → exec .display s = .next t →
    (2 ≤ s.cfg.fullUpdateEvery.toNat →
        (t.modeCounter = s.modeCounter ∧ t.status = .degraded ∧ t.wire = s.wire
            ∧ t.response = some 0#32)
          ∨ t.modeCounter.toNat = (s.modeCounter.toNat + 1) % s.cfg.fullUpdateEvery.toNat)
      ∧ (s.cfg.fullUpdateEvery.toNat < 2 → t.modeCounter = s.modeCounter)

/-! ### DISPLAY, strategies B and B75 -/

/-- A DISPLAY of strategy B or B75 whose gate sees the panel not busy completes: the frame under DATA_TX_1 and
again under DATA_TX_2 (one plane only for B75 with one plane), each byte expanded for B75, then the refresh
command; `status` NOMINAL, answer OK, 1, and nothing else changes (R175 to R179). That the gate registers and
`busy` keep the gate's values is the model's choice (log 26, 6). The idle `sclk` and `mosi` after the traffic
and the line history are the model's choices too (log 9, 10). -/
def Obligations.DisplayBStreamsItsPlanes : Prop :=
  ∀ (s : State) (k : Nat), Inv s → s.phase = .idle → s.cfg.profile.strategy ≠ .a →
    s.cfg.hasBusy = true → firstNotBusy s 0 k → k ≤ lastSample s.cfg.gateOrder 1000 →
    exec .display s = .next
      (idleAfter
        { atTime (afterSamples (gateRegs (withEvents s
            (sampleEvents s s.now 0 (k + 1) ++ frameEventsB s.cfg s.fb.bytes)) s.now 1000)
            (k + 1) false) (s.now + 10 * k) with
          status := .nominal } 1#16)

/-- A DISPLAY of strategy B or B75 without a busy pin completes with the same traffic and no sample (R142, R175
to R179). That the gate registers keep the values they had is the model's choice (log 26). The idle `sclk` and
`mosi` after the traffic and the line history are the model's choices too (log 9, 10). -/
def Obligations.DisplayBWithoutBusyPinStreamsItsPlanes : Prop :=
  ∀ s : State, Inv s → s.phase = .idle → s.cfg.profile.strategy ≠ .a → s.cfg.hasBusy = false →
    exec .display s = .next
      (idleAfter { withEvents s (frameEventsB s.cfg s.fb.bytes) with status := .nominal } 1#16)

/-- The family-B profiles ignore N: DISPLAY with another N does the same (R25, R175). -/
def Obligations.FamilyBIgnoresTheCadence : Prop :=
  ∀ (s : State) (n : BitVec 32), s.cfg.profile.strategy ≠ .a →
    exec .display { s with cfg := { s.cfg with fullUpdateEvery := n } }
      = mapNext (fun t => { t with cfg := { t.cfg with fullUpdateEvery := n } }) (exec .display s)

/-- The 7.5" bit-doubling transform: four bytes, of which byte `k` has the nibble of bit `7 - 2k` high and
that of bit `6 - 2k` low; each is `TONE_ON` for a set bit and 0 for a clear one. With `TONE_ON = 0x3` every byte
is one of four, and 0b10110000 becomes 0x30, 0x33, 0x00, 0x00 (R177). -/
def Obligations.ExpandByteDoublesEachBit : Prop :=
  (∀ (tone : BitVec 4) (v : Byte), (expandByte tone v).length = 4
      ∧ ∀ k : Fin 4, ∃ e, (expandByte tone v)[k.val]? = some e
        ∧ e.extractLsb' 4 4 = (if v.getLsbD (7 - 2 * k.val) then tone else 0#4)
        ∧ e.extractLsb' 0 4 = (if v.getLsbD (6 - 2 * k.val) then tone else 0#4))
    ∧ (∀ (v e : Byte), e ∈ expandByte 0x3#4 v → e ∈ [0x00#8, 0x03#8, 0x30#8, 0x33#8])
    ∧ expandByte 0x3#4 0b10110000#8 = [0x30#8, 0x33#8, 0x00#8, 0x00#8]

/-- The number of bus transactions of a completed DISPLAY, by strategy (R184). -/
def Obligations.CompletedDisplayTransactionCounts : Prop :=
  ∀ s t : State, Inv s → s.phase = .idle → exec .display s = .next t → t.response = some 1#32 →
    (t.trace.filter isBusEvent).length = (s.trace.filter isBusEvent).length +
      match s.cfg.profile.strategy with
      | .a => 17 + byteLength s.cfg.profile + s.cfg.updateCtrlData.length
          + (if 2 ≤ s.cfg.fullUpdateEvery.toNat ∧ s.modeCounter.toNat ≤ 1 then
              1 + s.cfg.profile.lutFull.length else 0)
      | .b => 2 * byteLength s.cfg.profile + 3
      | .b75 =>
        match s.cfg.b75Planes with
        | .two => 8 * byteLength s.cfg.profile + 3
        | .one => 4 * byteLength s.cfg.profile + 2

/-! ### STATUS and the status flag -/

/-- STATUS completes: it answers OK with 1 exactly where the flag is DEGRADED, as `status_out` shows, and
writes nothing (R26, R180). -/
def Obligations.StatusAnswersTheDegradedFlag : Prop :=
  ∀ s : State, exec .status s = .next
      { s with response := some (if s.status = .degraded then 1#32 else 0#32) }
    ∧ (s.statusOut = true ↔ s.status = .degraded)

/-- Only DISPLAY writes `status` and `mode_counter` (R24, R26). -/
def Obligations.OnlyDisplayWritesStatusAndCounter : Prop :=
  ∀ (s t : State) (i : Instr), exec i s = .next t → i ≠ .display →
    t.status = s.status ∧ t.modeCounter = s.modeCounter

/-- After any accepted DISPLAY the flag says how it ended: NOMINAL with answer OK, 1, or DEGRADED with answer
OK, 0 and the timeout as the last event (R165, R174, R175, R207). -/
def Obligations.DisplaySetsStatusByItsOutcome : Prop :=
  ∀ s t : State, s.phase = .idle → exec .display s = .next t →
    t.phase = .idle
      ∧ ((t.status = .nominal ∧ t.response = some 1#32)
        ∨ (t.status = .degraded ∧ t.response = some 0#32
            ∧ t.trace.getLast? = some .busyTimeout))

/-! ### Reset, construction and the whole machine -/

/-- The profile table: strategy, width, height and framebuffer length of each id, and the window ends of the
strategy-A ids (R27); each id selects its record, and every id's profile is admitted with waveform tables of an
admitted length (R29, R30). -/
def Obligations.ProfileTableIsTheSpecs : Prop :=
  [ProfileId.a200x200, .a128x250, .a128x296, .b176x264, .b400x300, .b75x640x384].map
      (fun id =>
        let p := profileOf id [] [] [] []
        (p.strategy, p.width, p.height, byteLength p))
      = [(.a, 200, 200, 5000), (.a, 128, 250, 4000), (.a, 128, 296, 4736), (.b, 176, 264, 5808),
        (.b, 400, 300, 15000), (.b75, 640, 384, 30720)]
    ∧ [ProfileId.a200x200, .a128x250, .a128x296].map (fun id =>
        ((xWindowEnd (profileOf id [] [] [] [])).toNat, (yWindowEnd (profileOf id [] [] [] [])).toNat))
      = [(24, 199), (15, 249), (15, 295)]
    ∧ (∀ id script full part, full.length = part.length → 30 ≤ full.length → full.length ≤ 44 →
        (profileOf id script [] full part).wf = true)
    ∧ ∀ id script luts full part, (profileOf id script luts full part).id = id
        ∧ byteLength (profileOf id script luts full part) ≤ 30720

/-- A profile is well-formed exactly on the conditions of R29. A profile that is not, or that is not the record
of one of the six ids (R8, R30), is refused at construction; with one that is both, a positive time unit (R10) and
one byte for each index (R50) an engine is built. -/
def Obligations.ConstructionAdmitsExactlyWellFormedProfiles : Prop :=
  (∀ p : Profile, p.wf = true ↔
      (p.width % 8 = 0 ∧ 8 ≤ p.width ∧ 1 ≤ p.height ∧ p.height ≤ 65536
        ∧ p.width * p.height / 8 ≤ 65535
        ∧ (p.strategy = .a → p.width ≤ 2048)
        ∧ (∀ l ∈ p.setupLuts, 30 ≤ l.data.length ∧ l.data.length ≤ 44)
        ∧ (p.strategy = .a → 30 ≤ p.lutFull.length ∧ p.lutFull.length ≤ 44
            ∧ p.lutFull.length = p.lutPartial.length)))
    ∧ (∀ (c : Config) (m : Memory), c.profile.wf = false → construct c m = .refused .illFormedProfile)
    ∧ (∀ (c : Config) (m : Memory),
        (¬∃ id script luts full part, c.profile = profileOf id script luts full part) →
        construct c m = .refused .illFormedProfile)
    ∧ ∀ (c : Config) (m : Memory) id script luts full part,
        c.profile = profileOf id script luts full part → c.profile.wf = true → 0 < c.timeUnit →
        m.map Prod.fst = List.range (byteLength c.profile) → construct c m = .next (State.resetWith c m)

/-- The values R221 gives for reset, for every configuration and every framebuffer an engine is built with;
`rst_n` where there is a reset pin. -/
def Obligations.ResetValuesAreTheSpecs : Prop :=
  ∀ (c : Config) (m : Memory) (s : State), construct c m = .next s →
    s.cfg = c ∧ s.fb = m ∧ s.modeCounter = 0#32 ∧ s.status = .nominal ∧ s.phase = .uninit
      ∧ s.seqStep = none ∧ s.trace = [] ∧ s.now = 0 ∧ s.csN = true
      ∧ s.sclk = c.bus.sclkIdle ∧ s.mosi = c.bus.mosiIdle ∧ (c.hasReset = true → s.rstN = true)
      ∧ s.statusOut = false

/-- The invariant holds of every engine as it is built, and of the reset state (R221, with the model's choices
of log 8 and 23). -/
def Obligations.InvariantHoldsAtReset : Prop :=
  (∀ c m s, construct c m = .next s → Inv s) ∧ Inv State.reset

/-- Every step keeps the invariant of an engine between two requests: the framebuffer keeps its canonical form,
no sequence is left running, the counter stays legal, the bus is idle and its lines moved exactly as the
transactions of `trace` say (R64, R66, R121, R130, R181). The clauses on the model's own choices are those of
log 8 (the gate registers), 9 and 10 (the idle lines and their history) and 23 (`rst_n` without a pin). -/
def Obligations.EveryStepKeepsTheInvariant : Prop :=
  ∀ s t : State, Inv s → step s = .next t → Inv t

/-- The configuration never changes, time does not go back, and `trace` only grows (R8, R36, R37, R63), and so
does the line history, a field of the model's own (log 10). -/
def Obligations.ConfigurationStandsAndHistoryGrows : Prop :=
  ∀ s t : State, step s = .next t →
    t.cfg = s.cfg ∧ s.now ≤ t.now ∧ s.trace <+: t.trace ∧ s.wire <+: t.wire

/-- No request takes longer than R234 says, counted from when it is taken. -/
def Obligations.RequestDurationsAreBounded : Prop :=
  ∀ (s t : State) (i : Instr), exec i s = .next t →
    s.now ≤ t.now ∧ t.now ≤ s.now + longest s.cfg i

/-- The phase moves only as R160 says: SETUP from UNINIT to IDLE; every other request comes back to the
phase it was taken in. -/
def Obligations.PhaseMovesOnlyAsStated : Prop :=
  ∀ (s t : State) (i : Instr), s.portReady = true → exec i s = .next t →
    t.phase = if i = .setup ∧ s.phase = .uninit then .idle else s.phase

/-- Only SETUP drives `rst_n`, and it leaves it released (R34, R162). -/
def Obligations.OnlySetupDrivesReset : Prop :=
  ∀ (s t : State) (i : Instr), exec i s = .next t →
    t.rstN = s.rstN ∨ (i = .setup ∧ s.cfg.hasReset = true ∧ t.rstN = true)

/-- The framer's lines and their history (log 10) are untouched by every request, whichever it is, that appends no
bus event: also by one refused, a SETUP with empty scripts, a DISPLAY aborted at step 1. SETPX, FILL, LEN, RDBYTE,
WAIT and STATUS never append one (R105, R120, R147). -/
def Obligations.OnlyTransactionsMoveTheBus : Prop :=
  (∀ (s t : State) (i : Instr), exec i s = .next t →
      t.trace.filter isBusEvent = s.trace.filter isBusEvent →
      t.dc = s.dc ∧ t.csN = s.csN ∧ t.sclk = s.sclk ∧ t.mosi = s.mosi ∧ t.wire = s.wire)
    ∧ ∀ (s t : State) (i : Instr), exec i s = .next t → i ≠ .setup → i ≠ .display →
      (∀ b, i ≠ .cmd b) → (∀ b, i ≠ .data b) →
      t.trace.filter isBusEvent = s.trace.filter isBusEvent
end

