-- ==== Sys2Proof/Laws/State.lean ====
section
/-! SUPPORT. What each named update does to each field of the state: one lemma for each field and each update,
true by rfl, so that no later proof unfolds a record update. -/

namespace Sys2Proof.Machine

@[simp] theorem State.raiseBusyTimeout_eq (s : State) : s.raiseBusyTimeout = s.log .busyTimeout := rfl

@[simp] theorem State.reject_eq (s : State) (c : ResultCode) : s.reject c = s.respond c 0#16 := rfl

theorem State.dispatchLut_eq (s : State) :
    s.dispatchLut = (s.send (dispatchTxs s.cfg s.modeCounter)).setCounter
      (dispatchCounter s.cfg s.modeCounter) := rfl

/-! ### respond -/

@[simp] theorem State.respond_cfg (s : State) (c : ResultCode) (v : BitVec 16) :
    (s.respond c v).cfg = s.cfg := rfl
@[simp] theorem State.respond_fb (s : State) (c : ResultCode) (v : BitVec 16) :
    (s.respond c v).fb = s.fb := rfl
@[simp] theorem State.respond_modeCounter (s : State) (c : ResultCode) (v : BitVec 16) :
    (s.respond c v).modeCounter = s.modeCounter := rfl
@[simp] theorem State.respond_status (s : State) (c : ResultCode) (v : BitVec 16) :
    (s.respond c v).status = s.status := rfl
@[simp] theorem State.respond_phase (s : State) (c : ResultCode) (v : BitVec 16) :
    (s.respond c v).phase = s.phase := rfl
@[simp] theorem State.respond_seqStep (s : State) (c : ResultCode) (v : BitVec 16) :
    (s.respond c v).seqStep = s.seqStep := rfl
@[simp] theorem State.respond_dc (s : State) (c : ResultCode) (v : BitVec 16) :
    (s.respond c v).dc = s.dc := rfl
@[simp] theorem State.respond_csN (s : State) (c : ResultCode) (v : BitVec 16) :
    (s.respond c v).csN = s.csN := rfl
@[simp] theorem State.respond_sclk (s : State) (c : ResultCode) (v : BitVec 16) :
    (s.respond c v).sclk = s.sclk := rfl
@[simp] theorem State.respond_mosi (s : State) (c : ResultCode) (v : BitVec 16) :
    (s.respond c v).mosi = s.mosi := rfl
@[simp] theorem State.respond_rstN (s : State) (c : ResultCode) (v : BitVec 16) :
    (s.respond c v).rstN = s.rstN := rfl
@[simp] theorem State.respond_busy (s : State) (c : ResultCode) (v : BitVec 16) :
    (s.respond c v).busy = s.busy := rfl
@[simp] theorem State.respond_gateStart (s : State) (c : ResultCode) (v : BitVec 16) :
    (s.respond c v).gateStart = s.gateStart := rfl
@[simp] theorem State.respond_gateLimit (s : State) (c : ResultCode) (v : BitVec 16) :
    (s.respond c v).gateLimit = s.gateLimit := rfl
@[simp] theorem State.respond_gateReturn (s : State) (c : ResultCode) (v : BitVec 16) :
    (s.respond c v).gateReturn = s.gateReturn := rfl
@[simp] theorem State.respond_now (s : State) (c : ResultCode) (v : BitVec 16) :
    (s.respond c v).now = s.now := rfl
@[simp] theorem State.respond_trace (s : State) (c : ResultCode) (v : BitVec 16) :
    (s.respond c v).trace = s.trace := rfl
@[simp] theorem State.respond_response (s : State) (c : ResultCode) (v : BitVec 16) :
    (s.respond c v).response = some (responseWord c v) := rfl
@[simp] theorem State.respond_wire (s : State) (c : ResultCode) (v : BitVec 16) :
    (s.respond c v).wire = s.wire := rfl
@[simp] theorem State.respond_requests (s : State) (c : ResultCode) (v : BitVec 16) :
    (s.respond c v).requests = s.requests := rfl
@[simp] theorem State.respond_busyIn (s : State) (c : ResultCode) (v : BitVec 16) :
    (s.respond c v).busyIn = s.busyIn := rfl
@[simp] theorem State.respond_samples (s : State) (c : ResultCode) (v : BitVec 16) :
    (s.respond c v).samples = s.samples := rfl

/-! ### delay -/

@[simp] theorem State.delay_cfg (s : State) (t : Nat) :
    (s.delay t).cfg = s.cfg := rfl
@[simp] theorem State.delay_fb (s : State) (t : Nat) :
    (s.delay t).fb = s.fb := rfl
@[simp] theorem State.delay_modeCounter (s : State) (t : Nat) :
    (s.delay t).modeCounter = s.modeCounter := rfl
@[simp] theorem State.delay_status (s : State) (t : Nat) :
    (s.delay t).status = s.status := rfl
@[simp] theorem State.delay_phase (s : State) (t : Nat) :
    (s.delay t).phase = s.phase := rfl
@[simp] theorem State.delay_seqStep (s : State) (t : Nat) :
    (s.delay t).seqStep = s.seqStep := rfl
@[simp] theorem State.delay_dc (s : State) (t : Nat) :
    (s.delay t).dc = s.dc := rfl
@[simp] theorem State.delay_csN (s : State) (t : Nat) :
    (s.delay t).csN = s.csN := rfl
@[simp] theorem State.delay_sclk (s : State) (t : Nat) :
    (s.delay t).sclk = s.sclk := rfl
@[simp] theorem State.delay_mosi (s : State) (t : Nat) :
    (s.delay t).mosi = s.mosi := rfl
@[simp] theorem State.delay_rstN (s : State) (t : Nat) :
    (s.delay t).rstN = s.rstN := rfl
@[simp] theorem State.delay_busy (s : State) (t : Nat) :
    (s.delay t).busy = s.busy := rfl
@[simp] theorem State.delay_gateStart (s : State) (t : Nat) :
    (s.delay t).gateStart = s.gateStart := rfl
@[simp] theorem State.delay_gateLimit (s : State) (t : Nat) :
    (s.delay t).gateLimit = s.gateLimit := rfl
@[simp] theorem State.delay_gateReturn (s : State) (t : Nat) :
    (s.delay t).gateReturn = s.gateReturn := rfl
@[simp] theorem State.delay_now (s : State) (t : Nat) :
    (s.delay t).now = s.now + t := rfl
@[simp] theorem State.delay_trace (s : State) (t : Nat) :
    (s.delay t).trace = s.trace := rfl
@[simp] theorem State.delay_response (s : State) (t : Nat) :
    (s.delay t).response = s.response := rfl
@[simp] theorem State.delay_wire (s : State) (t : Nat) :
    (s.delay t).wire = s.wire := rfl
@[simp] theorem State.delay_requests (s : State) (t : Nat) :
    (s.delay t).requests = s.requests := rfl
@[simp] theorem State.delay_busyIn (s : State) (t : Nat) :
    (s.delay t).busyIn = s.busyIn := rfl
@[simp] theorem State.delay_samples (s : State) (t : Nat) :
    (s.delay t).samples = s.samples := rfl

/-! ### log -/

@[simp] theorem State.log_cfg (s : State) (e : Event) :
    (s.log e).cfg = s.cfg := rfl
@[simp] theorem State.log_fb (s : State) (e : Event) :
    (s.log e).fb = s.fb := rfl
@[simp] theorem State.log_modeCounter (s : State) (e : Event) :
    (s.log e).modeCounter = s.modeCounter := rfl
@[simp] theorem State.log_status (s : State) (e : Event) :
    (s.log e).status = s.status := rfl
@[simp] theorem State.log_phase (s : State) (e : Event) :
    (s.log e).phase = s.phase := rfl
@[simp] theorem State.log_seqStep (s : State) (e : Event) :
    (s.log e).seqStep = s.seqStep := rfl
@[simp] theorem State.log_dc (s : State) (e : Event) :
    (s.log e).dc = s.dc := rfl
@[simp] theorem State.log_csN (s : State) (e : Event) :
    (s.log e).csN = s.csN := rfl
@[simp] theorem State.log_sclk (s : State) (e : Event) :
    (s.log e).sclk = s.sclk := rfl
@[simp] theorem State.log_mosi (s : State) (e : Event) :
    (s.log e).mosi = s.mosi := rfl
@[simp] theorem State.log_rstN (s : State) (e : Event) :
    (s.log e).rstN = s.rstN := rfl
@[simp] theorem State.log_busy (s : State) (e : Event) :
    (s.log e).busy = s.busy := rfl
@[simp] theorem State.log_gateStart (s : State) (e : Event) :
    (s.log e).gateStart = s.gateStart := rfl
@[simp] theorem State.log_gateLimit (s : State) (e : Event) :
    (s.log e).gateLimit = s.gateLimit := rfl
@[simp] theorem State.log_gateReturn (s : State) (e : Event) :
    (s.log e).gateReturn = s.gateReturn := rfl
@[simp] theorem State.log_now (s : State) (e : Event) :
    (s.log e).now = s.now := rfl
@[simp] theorem State.log_trace (s : State) (e : Event) :
    (s.log e).trace = s.trace ++ [e] := rfl
@[simp] theorem State.log_response (s : State) (e : Event) :
    (s.log e).response = s.response := rfl
@[simp] theorem State.log_wire (s : State) (e : Event) :
    (s.log e).wire = s.wire := rfl
@[simp] theorem State.log_requests (s : State) (e : Event) :
    (s.log e).requests = s.requests := rfl
@[simp] theorem State.log_busyIn (s : State) (e : Event) :
    (s.log e).busyIn = s.busyIn := rfl
@[simp] theorem State.log_samples (s : State) (e : Event) :
    (s.log e).samples = s.samples := rfl

/-! ### driveRst -/

@[simp] theorem State.driveRst_cfg (s : State) (v : Level) :
    (s.driveRst v).cfg = s.cfg := rfl
@[simp] theorem State.driveRst_fb (s : State) (v : Level) :
    (s.driveRst v).fb = s.fb := rfl
@[simp] theorem State.driveRst_modeCounter (s : State) (v : Level) :
    (s.driveRst v).modeCounter = s.modeCounter := rfl
@[simp] theorem State.driveRst_status (s : State) (v : Level) :
    (s.driveRst v).status = s.status := rfl
@[simp] theorem State.driveRst_phase (s : State) (v : Level) :
    (s.driveRst v).phase = s.phase := rfl
@[simp] theorem State.driveRst_seqStep (s : State) (v : Level) :
    (s.driveRst v).seqStep = s.seqStep := rfl
@[simp] theorem State.driveRst_dc (s : State) (v : Level) :
    (s.driveRst v).dc = s.dc := rfl
@[simp] theorem State.driveRst_csN (s : State) (v : Level) :
    (s.driveRst v).csN = s.csN := rfl
@[simp] theorem State.driveRst_sclk (s : State) (v : Level) :
    (s.driveRst v).sclk = s.sclk := rfl
@[simp] theorem State.driveRst_mosi (s : State) (v : Level) :
    (s.driveRst v).mosi = s.mosi := rfl
@[simp] theorem State.driveRst_rstN (s : State) (v : Level) :
    (s.driveRst v).rstN = v := rfl
@[simp] theorem State.driveRst_busy (s : State) (v : Level) :
    (s.driveRst v).busy = s.busy := rfl
@[simp] theorem State.driveRst_gateStart (s : State) (v : Level) :
    (s.driveRst v).gateStart = s.gateStart := rfl
@[simp] theorem State.driveRst_gateLimit (s : State) (v : Level) :
    (s.driveRst v).gateLimit = s.gateLimit := rfl
@[simp] theorem State.driveRst_gateReturn (s : State) (v : Level) :
    (s.driveRst v).gateReturn = s.gateReturn := rfl
@[simp] theorem State.driveRst_now (s : State) (v : Level) :
    (s.driveRst v).now = s.now := rfl
@[simp] theorem State.driveRst_trace (s : State) (v : Level) :
    (s.driveRst v).trace = s.trace ++ [.rst v] := rfl
@[simp] theorem State.driveRst_response (s : State) (v : Level) :
    (s.driveRst v).response = s.response := rfl
@[simp] theorem State.driveRst_wire (s : State) (v : Level) :
    (s.driveRst v).wire = s.wire := rfl
@[simp] theorem State.driveRst_requests (s : State) (v : Level) :
    (s.driveRst v).requests = s.requests := rfl
@[simp] theorem State.driveRst_busyIn (s : State) (v : Level) :
    (s.driveRst v).busyIn = s.busyIn := rfl
@[simp] theorem State.driveRst_samples (s : State) (v : Level) :
    (s.driveRst v).samples = s.samples := rfl

/-! ### sampleBusy -/

@[simp] theorem State.sampleBusy_cfg (s : State) :
    (s.sampleBusy).cfg = s.cfg := rfl
@[simp] theorem State.sampleBusy_fb (s : State) :
    (s.sampleBusy).fb = s.fb := rfl
@[simp] theorem State.sampleBusy_modeCounter (s : State) :
    (s.sampleBusy).modeCounter = s.modeCounter := rfl
@[simp] theorem State.sampleBusy_status (s : State) :
    (s.sampleBusy).status = s.status := rfl
@[simp] theorem State.sampleBusy_phase (s : State) :
    (s.sampleBusy).phase = s.phase := rfl
@[simp] theorem State.sampleBusy_seqStep (s : State) :
    (s.sampleBusy).seqStep = s.seqStep := rfl
@[simp] theorem State.sampleBusy_dc (s : State) :
    (s.sampleBusy).dc = s.dc := rfl
@[simp] theorem State.sampleBusy_csN (s : State) :
    (s.sampleBusy).csN = s.csN := rfl
@[simp] theorem State.sampleBusy_sclk (s : State) :
    (s.sampleBusy).sclk = s.sclk := rfl
@[simp] theorem State.sampleBusy_mosi (s : State) :
    (s.sampleBusy).mosi = s.mosi := rfl
@[simp] theorem State.sampleBusy_rstN (s : State) :
    (s.sampleBusy).rstN = s.rstN := rfl
@[simp] theorem State.sampleBusy_busy (s : State) :
    (s.sampleBusy).busy = s.upcomingBusy 0 := rfl
@[simp] theorem State.sampleBusy_gateStart (s : State) :
    (s.sampleBusy).gateStart = s.gateStart := rfl
@[simp] theorem State.sampleBusy_gateLimit (s : State) :
    (s.sampleBusy).gateLimit = s.gateLimit := rfl
@[simp] theorem State.sampleBusy_gateReturn (s : State) :
    (s.sampleBusy).gateReturn = s.gateReturn := rfl
@[simp] theorem State.sampleBusy_now (s : State) :
    (s.sampleBusy).now = s.now := rfl
@[simp] theorem State.sampleBusy_trace (s : State) :
    (s.sampleBusy).trace = s.trace ++ [.sample s.now (s.upcomingBusy 0)] := rfl
@[simp] theorem State.sampleBusy_response (s : State) :
    (s.sampleBusy).response = s.response := rfl
@[simp] theorem State.sampleBusy_wire (s : State) :
    (s.sampleBusy).wire = s.wire := rfl
@[simp] theorem State.sampleBusy_requests (s : State) :
    (s.sampleBusy).requests = s.requests := rfl
@[simp] theorem State.sampleBusy_busyIn (s : State) :
    (s.sampleBusy).busyIn = s.busyIn.tail := rfl
@[simp] theorem State.sampleBusy_samples (s : State) :
    (s.sampleBusy).samples = s.samples + 1 := rfl

/-! ### accept -/

@[simp] theorem State.accept_cfg (s : State) (r : Request) (rs : List Request) :
    (s.accept r rs).cfg = s.cfg := rfl
@[simp] theorem State.accept_fb (s : State) (r : Request) (rs : List Request) :
    (s.accept r rs).fb = s.fb := rfl
@[simp] theorem State.accept_modeCounter (s : State) (r : Request) (rs : List Request) :
    (s.accept r rs).modeCounter = s.modeCounter := rfl
@[simp] theorem State.accept_status (s : State) (r : Request) (rs : List Request) :
    (s.accept r rs).status = s.status := rfl
@[simp] theorem State.accept_phase (s : State) (r : Request) (rs : List Request) :
    (s.accept r rs).phase = s.phase := rfl
@[simp] theorem State.accept_seqStep (s : State) (r : Request) (rs : List Request) :
    (s.accept r rs).seqStep = s.seqStep := rfl
@[simp] theorem State.accept_dc (s : State) (r : Request) (rs : List Request) :
    (s.accept r rs).dc = s.dc := rfl
@[simp] theorem State.accept_csN (s : State) (r : Request) (rs : List Request) :
    (s.accept r rs).csN = s.csN := rfl
@[simp] theorem State.accept_sclk (s : State) (r : Request) (rs : List Request) :
    (s.accept r rs).sclk = s.sclk := rfl
@[simp] theorem State.accept_mosi (s : State) (r : Request) (rs : List Request) :
    (s.accept r rs).mosi = s.mosi := rfl
@[simp] theorem State.accept_rstN (s : State) (r : Request) (rs : List Request) :
    (s.accept r rs).rstN = s.rstN := rfl
@[simp] theorem State.accept_busy (s : State) (r : Request) (rs : List Request) :
    (s.accept r rs).busy = s.busy := rfl
@[simp] theorem State.accept_gateStart (s : State) (r : Request) (rs : List Request) :
    (s.accept r rs).gateStart = s.gateStart := rfl
@[simp] theorem State.accept_gateLimit (s : State) (r : Request) (rs : List Request) :
    (s.accept r rs).gateLimit = s.gateLimit := rfl
@[simp] theorem State.accept_gateReturn (s : State) (r : Request) (rs : List Request) :
    (s.accept r rs).gateReturn = s.gateReturn := rfl
@[simp] theorem State.accept_now (s : State) (r : Request) (rs : List Request) :
    (s.accept r rs).now = s.now + r.gap := rfl
@[simp] theorem State.accept_trace (s : State) (r : Request) (rs : List Request) :
    (s.accept r rs).trace = s.trace := rfl
@[simp] theorem State.accept_response (s : State) (r : Request) (rs : List Request) :
    (s.accept r rs).response = none := rfl
@[simp] theorem State.accept_wire (s : State) (r : Request) (rs : List Request) :
    (s.accept r rs).wire = s.wire := rfl
@[simp] theorem State.accept_requests (s : State) (r : Request) (rs : List Request) :
    (s.accept r rs).requests = rs := rfl
@[simp] theorem State.accept_busyIn (s : State) (r : Request) (rs : List Request) :
    (s.accept r rs).busyIn = s.busyIn := rfl
@[simp] theorem State.accept_samples (s : State) (r : Request) (rs : List Request) :
    (s.accept r rs).samples = s.samples := rfl

/-! ### beginSequence -/

@[simp] theorem State.beginSequence_cfg (s : State) (p : Phase) :
    (s.beginSequence p).cfg = s.cfg := rfl
@[simp] theorem State.beginSequence_fb (s : State) (p : Phase) :
    (s.beginSequence p).fb = s.fb := rfl
@[simp] theorem State.beginSequence_modeCounter (s : State) (p : Phase) :
    (s.beginSequence p).modeCounter = s.modeCounter := rfl
@[simp] theorem State.beginSequence_status (s : State) (p : Phase) :
    (s.beginSequence p).status = s.status := rfl
@[simp] theorem State.beginSequence_phase (s : State) (p : Phase) :
    (s.beginSequence p).phase = p := rfl
@[simp] theorem State.beginSequence_seqStep (s : State) (p : Phase) :
    (s.beginSequence p).seqStep = s.seqStep := rfl
@[simp] theorem State.beginSequence_dc (s : State) (p : Phase) :
    (s.beginSequence p).dc = s.dc := rfl
@[simp] theorem State.beginSequence_csN (s : State) (p : Phase) :
    (s.beginSequence p).csN = s.csN := rfl
@[simp] theorem State.beginSequence_sclk (s : State) (p : Phase) :
    (s.beginSequence p).sclk = s.sclk := rfl
@[simp] theorem State.beginSequence_mosi (s : State) (p : Phase) :
    (s.beginSequence p).mosi = s.mosi := rfl
@[simp] theorem State.beginSequence_rstN (s : State) (p : Phase) :
    (s.beginSequence p).rstN = s.rstN := rfl
@[simp] theorem State.beginSequence_busy (s : State) (p : Phase) :
    (s.beginSequence p).busy = s.busy := rfl
@[simp] theorem State.beginSequence_gateStart (s : State) (p : Phase) :
    (s.beginSequence p).gateStart = s.gateStart := rfl
@[simp] theorem State.beginSequence_gateLimit (s : State) (p : Phase) :
    (s.beginSequence p).gateLimit = s.gateLimit := rfl
@[simp] theorem State.beginSequence_gateReturn (s : State) (p : Phase) :
    (s.beginSequence p).gateReturn = s.gateReturn := rfl
@[simp] theorem State.beginSequence_now (s : State) (p : Phase) :
    (s.beginSequence p).now = s.now := rfl
@[simp] theorem State.beginSequence_trace (s : State) (p : Phase) :
    (s.beginSequence p).trace = s.trace := rfl
@[simp] theorem State.beginSequence_response (s : State) (p : Phase) :
    (s.beginSequence p).response = s.response := rfl
@[simp] theorem State.beginSequence_wire (s : State) (p : Phase) :
    (s.beginSequence p).wire = s.wire := rfl
@[simp] theorem State.beginSequence_requests (s : State) (p : Phase) :
    (s.beginSequence p).requests = s.requests := rfl
@[simp] theorem State.beginSequence_busyIn (s : State) (p : Phase) :
    (s.beginSequence p).busyIn = s.busyIn := rfl
@[simp] theorem State.beginSequence_samples (s : State) (p : Phase) :
    (s.beginSequence p).samples = s.samples := rfl

/-! ### atStep -/

@[simp] theorem State.atStep_cfg (s : State) (k : SeqStep) :
    (s.atStep k).cfg = s.cfg := rfl
@[simp] theorem State.atStep_fb (s : State) (k : SeqStep) :
    (s.atStep k).fb = s.fb := rfl
@[simp] theorem State.atStep_modeCounter (s : State) (k : SeqStep) :
    (s.atStep k).modeCounter = s.modeCounter := rfl
@[simp] theorem State.atStep_status (s : State) (k : SeqStep) :
    (s.atStep k).status = s.status := rfl
@[simp] theorem State.atStep_phase (s : State) (k : SeqStep) :
    (s.atStep k).phase = s.phase := rfl
@[simp] theorem State.atStep_seqStep (s : State) (k : SeqStep) :
    (s.atStep k).seqStep = some k := rfl
@[simp] theorem State.atStep_dc (s : State) (k : SeqStep) :
    (s.atStep k).dc = s.dc := rfl
@[simp] theorem State.atStep_csN (s : State) (k : SeqStep) :
    (s.atStep k).csN = s.csN := rfl
@[simp] theorem State.atStep_sclk (s : State) (k : SeqStep) :
    (s.atStep k).sclk = s.sclk := rfl
@[simp] theorem State.atStep_mosi (s : State) (k : SeqStep) :
    (s.atStep k).mosi = s.mosi := rfl
@[simp] theorem State.atStep_rstN (s : State) (k : SeqStep) :
    (s.atStep k).rstN = s.rstN := rfl
@[simp] theorem State.atStep_busy (s : State) (k : SeqStep) :
    (s.atStep k).busy = s.busy := rfl
@[simp] theorem State.atStep_gateStart (s : State) (k : SeqStep) :
    (s.atStep k).gateStart = s.gateStart := rfl
@[simp] theorem State.atStep_gateLimit (s : State) (k : SeqStep) :
    (s.atStep k).gateLimit = s.gateLimit := rfl
@[simp] theorem State.atStep_gateReturn (s : State) (k : SeqStep) :
    (s.atStep k).gateReturn = s.gateReturn := rfl
@[simp] theorem State.atStep_now (s : State) (k : SeqStep) :
    (s.atStep k).now = s.now := rfl
@[simp] theorem State.atStep_trace (s : State) (k : SeqStep) :
    (s.atStep k).trace = s.trace := rfl
@[simp] theorem State.atStep_response (s : State) (k : SeqStep) :
    (s.atStep k).response = s.response := rfl
@[simp] theorem State.atStep_wire (s : State) (k : SeqStep) :
    (s.atStep k).wire = s.wire := rfl
@[simp] theorem State.atStep_requests (s : State) (k : SeqStep) :
    (s.atStep k).requests = s.requests := rfl
@[simp] theorem State.atStep_busyIn (s : State) (k : SeqStep) :
    (s.atStep k).busyIn = s.busyIn := rfl
@[simp] theorem State.atStep_samples (s : State) (k : SeqStep) :
    (s.atStep k).samples = s.samples := rfl

/-! ### complete -/

@[simp] theorem State.complete_cfg (s : State) (p : Phase) (v : BitVec 16) :
    (s.complete p v).cfg = s.cfg := rfl
@[simp] theorem State.complete_fb (s : State) (p : Phase) (v : BitVec 16) :
    (s.complete p v).fb = s.fb := rfl
@[simp] theorem State.complete_modeCounter (s : State) (p : Phase) (v : BitVec 16) :
    (s.complete p v).modeCounter = s.modeCounter := rfl
@[simp] theorem State.complete_status (s : State) (p : Phase) (v : BitVec 16) :
    (s.complete p v).status = s.status := rfl
@[simp] theorem State.complete_phase (s : State) (p : Phase) (v : BitVec 16) :
    (s.complete p v).phase = p := rfl
@[simp] theorem State.complete_seqStep (s : State) (p : Phase) (v : BitVec 16) :
    (s.complete p v).seqStep = none := rfl
@[simp] theorem State.complete_dc (s : State) (p : Phase) (v : BitVec 16) :
    (s.complete p v).dc = s.dc := rfl
@[simp] theorem State.complete_csN (s : State) (p : Phase) (v : BitVec 16) :
    (s.complete p v).csN = s.csN := rfl
@[simp] theorem State.complete_sclk (s : State) (p : Phase) (v : BitVec 16) :
    (s.complete p v).sclk = s.sclk := rfl
@[simp] theorem State.complete_mosi (s : State) (p : Phase) (v : BitVec 16) :
    (s.complete p v).mosi = s.mosi := rfl
@[simp] theorem State.complete_rstN (s : State) (p : Phase) (v : BitVec 16) :
    (s.complete p v).rstN = s.rstN := rfl
@[simp] theorem State.complete_busy (s : State) (p : Phase) (v : BitVec 16) :
    (s.complete p v).busy = s.busy := rfl
@[simp] theorem State.complete_gateStart (s : State) (p : Phase) (v : BitVec 16) :
    (s.complete p v).gateStart = s.gateStart := rfl
@[simp] theorem State.complete_gateLimit (s : State) (p : Phase) (v : BitVec 16) :
    (s.complete p v).gateLimit = s.gateLimit := rfl
@[simp] theorem State.complete_gateReturn (s : State) (p : Phase) (v : BitVec 16) :
    (s.complete p v).gateReturn = s.gateReturn := rfl
@[simp] theorem State.complete_now (s : State) (p : Phase) (v : BitVec 16) :
    (s.complete p v).now = s.now := rfl
@[simp] theorem State.complete_trace (s : State) (p : Phase) (v : BitVec 16) :
    (s.complete p v).trace = s.trace := rfl
@[simp] theorem State.complete_response (s : State) (p : Phase) (v : BitVec 16) :
    (s.complete p v).response = some (responseWord .ok v) := rfl
@[simp] theorem State.complete_wire (s : State) (p : Phase) (v : BitVec 16) :
    (s.complete p v).wire = s.wire := rfl
@[simp] theorem State.complete_requests (s : State) (p : Phase) (v : BitVec 16) :
    (s.complete p v).requests = s.requests := rfl
@[simp] theorem State.complete_busyIn (s : State) (p : Phase) (v : BitVec 16) :
    (s.complete p v).busyIn = s.busyIn := rfl
@[simp] theorem State.complete_samples (s : State) (p : Phase) (v : BitVec 16) :
    (s.complete p v).samples = s.samples := rfl

/-! ### abort -/

@[simp] theorem State.abort_cfg (s : State) :
    (s.abort).cfg = s.cfg := rfl
@[simp] theorem State.abort_fb (s : State) :
    (s.abort).fb = s.fb := rfl
@[simp] theorem State.abort_modeCounter (s : State) :
    (s.abort).modeCounter = s.modeCounter := rfl
@[simp] theorem State.abort_status (s : State) :
    (s.abort).status = .degraded := rfl
@[simp] theorem State.abort_phase (s : State) :
    (s.abort).phase = .idle := rfl
@[simp] theorem State.abort_seqStep (s : State) :
    (s.abort).seqStep = none := rfl
@[simp] theorem State.abort_dc (s : State) :
    (s.abort).dc = s.dc := rfl
@[simp] theorem State.abort_csN (s : State) :
    (s.abort).csN = s.csN := rfl
@[simp] theorem State.abort_sclk (s : State) :
    (s.abort).sclk = s.sclk := rfl
@[simp] theorem State.abort_mosi (s : State) :
    (s.abort).mosi = s.mosi := rfl
@[simp] theorem State.abort_rstN (s : State) :
    (s.abort).rstN = s.rstN := rfl
@[simp] theorem State.abort_busy (s : State) :
    (s.abort).busy = s.busy := rfl
@[simp] theorem State.abort_gateStart (s : State) :
    (s.abort).gateStart = s.gateStart := rfl
@[simp] theorem State.abort_gateLimit (s : State) :
    (s.abort).gateLimit = s.gateLimit := rfl
@[simp] theorem State.abort_gateReturn (s : State) :
    (s.abort).gateReturn = s.gateReturn := rfl
@[simp] theorem State.abort_now (s : State) :
    (s.abort).now = s.now := rfl
@[simp] theorem State.abort_trace (s : State) :
    (s.abort).trace = s.trace := rfl
@[simp] theorem State.abort_response (s : State) :
    (s.abort).response = some (responseWord .ok 0#16) := rfl
@[simp] theorem State.abort_wire (s : State) :
    (s.abort).wire = s.wire := rfl
@[simp] theorem State.abort_requests (s : State) :
    (s.abort).requests = s.requests := rfl
@[simp] theorem State.abort_busyIn (s : State) :
    (s.abort).busyIn = s.busyIn := rfl
@[simp] theorem State.abort_samples (s : State) :
    (s.abort).samples = s.samples := rfl

/-! ### setStatus -/

@[simp] theorem State.setStatus_cfg (s : State) (v : Status) :
    (s.setStatus v).cfg = s.cfg := rfl
@[simp] theorem State.setStatus_fb (s : State) (v : Status) :
    (s.setStatus v).fb = s.fb := rfl
@[simp] theorem State.setStatus_modeCounter (s : State) (v : Status) :
    (s.setStatus v).modeCounter = s.modeCounter := rfl
@[simp] theorem State.setStatus_status (s : State) (v : Status) :
    (s.setStatus v).status = v := rfl
@[simp] theorem State.setStatus_phase (s : State) (v : Status) :
    (s.setStatus v).phase = s.phase := rfl
@[simp] theorem State.setStatus_seqStep (s : State) (v : Status) :
    (s.setStatus v).seqStep = s.seqStep := rfl
@[simp] theorem State.setStatus_dc (s : State) (v : Status) :
    (s.setStatus v).dc = s.dc := rfl
@[simp] theorem State.setStatus_csN (s : State) (v : Status) :
    (s.setStatus v).csN = s.csN := rfl
@[simp] theorem State.setStatus_sclk (s : State) (v : Status) :
    (s.setStatus v).sclk = s.sclk := rfl
@[simp] theorem State.setStatus_mosi (s : State) (v : Status) :
    (s.setStatus v).mosi = s.mosi := rfl
@[simp] theorem State.setStatus_rstN (s : State) (v : Status) :
    (s.setStatus v).rstN = s.rstN := rfl
@[simp] theorem State.setStatus_busy (s : State) (v : Status) :
    (s.setStatus v).busy = s.busy := rfl
@[simp] theorem State.setStatus_gateStart (s : State) (v : Status) :
    (s.setStatus v).gateStart = s.gateStart := rfl
@[simp] theorem State.setStatus_gateLimit (s : State) (v : Status) :
    (s.setStatus v).gateLimit = s.gateLimit := rfl
@[simp] theorem State.setStatus_gateReturn (s : State) (v : Status) :
    (s.setStatus v).gateReturn = s.gateReturn := rfl
@[simp] theorem State.setStatus_now (s : State) (v : Status) :
    (s.setStatus v).now = s.now := rfl
@[simp] theorem State.setStatus_trace (s : State) (v : Status) :
    (s.setStatus v).trace = s.trace := rfl
@[simp] theorem State.setStatus_response (s : State) (v : Status) :
    (s.setStatus v).response = s.response := rfl
@[simp] theorem State.setStatus_wire (s : State) (v : Status) :
    (s.setStatus v).wire = s.wire := rfl
@[simp] theorem State.setStatus_requests (s : State) (v : Status) :
    (s.setStatus v).requests = s.requests := rfl
@[simp] theorem State.setStatus_busyIn (s : State) (v : Status) :
    (s.setStatus v).busyIn = s.busyIn := rfl
@[simp] theorem State.setStatus_samples (s : State) (v : Status) :
    (s.setStatus v).samples = s.samples := rfl

/-! ### setCounter -/

@[simp] theorem State.setCounter_cfg (s : State) (v : BitVec 32) :
    (s.setCounter v).cfg = s.cfg := rfl
@[simp] theorem State.setCounter_fb (s : State) (v : BitVec 32) :
    (s.setCounter v).fb = s.fb := rfl
@[simp] theorem State.setCounter_modeCounter (s : State) (v : BitVec 32) :
    (s.setCounter v).modeCounter = v := rfl
@[simp] theorem State.setCounter_status (s : State) (v : BitVec 32) :
    (s.setCounter v).status = s.status := rfl
@[simp] theorem State.setCounter_phase (s : State) (v : BitVec 32) :
    (s.setCounter v).phase = s.phase := rfl
@[simp] theorem State.setCounter_seqStep (s : State) (v : BitVec 32) :
    (s.setCounter v).seqStep = s.seqStep := rfl
@[simp] theorem State.setCounter_dc (s : State) (v : BitVec 32) :
    (s.setCounter v).dc = s.dc := rfl
@[simp] theorem State.setCounter_csN (s : State) (v : BitVec 32) :
    (s.setCounter v).csN = s.csN := rfl
@[simp] theorem State.setCounter_sclk (s : State) (v : BitVec 32) :
    (s.setCounter v).sclk = s.sclk := rfl
@[simp] theorem State.setCounter_mosi (s : State) (v : BitVec 32) :
    (s.setCounter v).mosi = s.mosi := rfl
@[simp] theorem State.setCounter_rstN (s : State) (v : BitVec 32) :
    (s.setCounter v).rstN = s.rstN := rfl
@[simp] theorem State.setCounter_busy (s : State) (v : BitVec 32) :
    (s.setCounter v).busy = s.busy := rfl
@[simp] theorem State.setCounter_gateStart (s : State) (v : BitVec 32) :
    (s.setCounter v).gateStart = s.gateStart := rfl
@[simp] theorem State.setCounter_gateLimit (s : State) (v : BitVec 32) :
    (s.setCounter v).gateLimit = s.gateLimit := rfl
@[simp] theorem State.setCounter_gateReturn (s : State) (v : BitVec 32) :
    (s.setCounter v).gateReturn = s.gateReturn := rfl
@[simp] theorem State.setCounter_now (s : State) (v : BitVec 32) :
    (s.setCounter v).now = s.now := rfl
@[simp] theorem State.setCounter_trace (s : State) (v : BitVec 32) :
    (s.setCounter v).trace = s.trace := rfl
@[simp] theorem State.setCounter_response (s : State) (v : BitVec 32) :
    (s.setCounter v).response = s.response := rfl
@[simp] theorem State.setCounter_wire (s : State) (v : BitVec 32) :
    (s.setCounter v).wire = s.wire := rfl
@[simp] theorem State.setCounter_requests (s : State) (v : BitVec 32) :
    (s.setCounter v).requests = s.requests := rfl
@[simp] theorem State.setCounter_busyIn (s : State) (v : BitVec 32) :
    (s.setCounter v).busyIn = s.busyIn := rfl
@[simp] theorem State.setCounter_samples (s : State) (v : BitVec 32) :
    (s.setCounter v).samples = s.samples := rfl

/-! ### memWrite -/

@[simp] theorem State.memWrite_cfg (s : State) (i : Nat) (v : Byte) :
    (s.memWrite i v).cfg = s.cfg := rfl
@[simp] theorem State.memWrite_fb (s : State) (i : Nat) (v : Byte) :
    (s.memWrite i v).fb = s.fb.write i v := rfl
@[simp] theorem State.memWrite_modeCounter (s : State) (i : Nat) (v : Byte) :
    (s.memWrite i v).modeCounter = s.modeCounter := rfl
@[simp] theorem State.memWrite_status (s : State) (i : Nat) (v : Byte) :
    (s.memWrite i v).status = s.status := rfl
@[simp] theorem State.memWrite_phase (s : State) (i : Nat) (v : Byte) :
    (s.memWrite i v).phase = s.phase := rfl
@[simp] theorem State.memWrite_seqStep (s : State) (i : Nat) (v : Byte) :
    (s.memWrite i v).seqStep = s.seqStep := rfl
@[simp] theorem State.memWrite_dc (s : State) (i : Nat) (v : Byte) :
    (s.memWrite i v).dc = s.dc := rfl
@[simp] theorem State.memWrite_csN (s : State) (i : Nat) (v : Byte) :
    (s.memWrite i v).csN = s.csN := rfl
@[simp] theorem State.memWrite_sclk (s : State) (i : Nat) (v : Byte) :
    (s.memWrite i v).sclk = s.sclk := rfl
@[simp] theorem State.memWrite_mosi (s : State) (i : Nat) (v : Byte) :
    (s.memWrite i v).mosi = s.mosi := rfl
@[simp] theorem State.memWrite_rstN (s : State) (i : Nat) (v : Byte) :
    (s.memWrite i v).rstN = s.rstN := rfl
@[simp] theorem State.memWrite_busy (s : State) (i : Nat) (v : Byte) :
    (s.memWrite i v).busy = s.busy := rfl
@[simp] theorem State.memWrite_gateStart (s : State) (i : Nat) (v : Byte) :
    (s.memWrite i v).gateStart = s.gateStart := rfl
@[simp] theorem State.memWrite_gateLimit (s : State) (i : Nat) (v : Byte) :
    (s.memWrite i v).gateLimit = s.gateLimit := rfl
@[simp] theorem State.memWrite_gateReturn (s : State) (i : Nat) (v : Byte) :
    (s.memWrite i v).gateReturn = s.gateReturn := rfl
@[simp] theorem State.memWrite_now (s : State) (i : Nat) (v : Byte) :
    (s.memWrite i v).now = s.now := rfl
@[simp] theorem State.memWrite_trace (s : State) (i : Nat) (v : Byte) :
    (s.memWrite i v).trace = s.trace := rfl
@[simp] theorem State.memWrite_response (s : State) (i : Nat) (v : Byte) :
    (s.memWrite i v).response = s.response := rfl
@[simp] theorem State.memWrite_wire (s : State) (i : Nat) (v : Byte) :
    (s.memWrite i v).wire = s.wire := rfl
@[simp] theorem State.memWrite_requests (s : State) (i : Nat) (v : Byte) :
    (s.memWrite i v).requests = s.requests := rfl
@[simp] theorem State.memWrite_busyIn (s : State) (i : Nat) (v : Byte) :
    (s.memWrite i v).busyIn = s.busyIn := rfl
@[simp] theorem State.memWrite_samples (s : State) (i : Nat) (v : Byte) :
    (s.memWrite i v).samples = s.samples := rfl

/-! ### memFill -/

@[simp] theorem State.memFill_cfg (s : State) (v : Byte) :
    (s.memFill v).cfg = s.cfg := rfl
@[simp] theorem State.memFill_fb (s : State) (v : Byte) :
    (s.memFill v).fb = s.fb.fill v := rfl
@[simp] theorem State.memFill_modeCounter (s : State) (v : Byte) :
    (s.memFill v).modeCounter = s.modeCounter := rfl
@[simp] theorem State.memFill_status (s : State) (v : Byte) :
    (s.memFill v).status = s.status := rfl
@[simp] theorem State.memFill_phase (s : State) (v : Byte) :
    (s.memFill v).phase = s.phase := rfl
@[simp] theorem State.memFill_seqStep (s : State) (v : Byte) :
    (s.memFill v).seqStep = s.seqStep := rfl
@[simp] theorem State.memFill_dc (s : State) (v : Byte) :
    (s.memFill v).dc = s.dc := rfl
@[simp] theorem State.memFill_csN (s : State) (v : Byte) :
    (s.memFill v).csN = s.csN := rfl
@[simp] theorem State.memFill_sclk (s : State) (v : Byte) :
    (s.memFill v).sclk = s.sclk := rfl
@[simp] theorem State.memFill_mosi (s : State) (v : Byte) :
    (s.memFill v).mosi = s.mosi := rfl
@[simp] theorem State.memFill_rstN (s : State) (v : Byte) :
    (s.memFill v).rstN = s.rstN := rfl
@[simp] theorem State.memFill_busy (s : State) (v : Byte) :
    (s.memFill v).busy = s.busy := rfl
@[simp] theorem State.memFill_gateStart (s : State) (v : Byte) :
    (s.memFill v).gateStart = s.gateStart := rfl
@[simp] theorem State.memFill_gateLimit (s : State) (v : Byte) :
    (s.memFill v).gateLimit = s.gateLimit := rfl
@[simp] theorem State.memFill_gateReturn (s : State) (v : Byte) :
    (s.memFill v).gateReturn = s.gateReturn := rfl
@[simp] theorem State.memFill_now (s : State) (v : Byte) :
    (s.memFill v).now = s.now := rfl
@[simp] theorem State.memFill_trace (s : State) (v : Byte) :
    (s.memFill v).trace = s.trace := rfl
@[simp] theorem State.memFill_response (s : State) (v : Byte) :
    (s.memFill v).response = s.response := rfl
@[simp] theorem State.memFill_wire (s : State) (v : Byte) :
    (s.memFill v).wire = s.wire := rfl
@[simp] theorem State.memFill_requests (s : State) (v : Byte) :
    (s.memFill v).requests = s.requests := rfl
@[simp] theorem State.memFill_busyIn (s : State) (v : Byte) :
    (s.memFill v).busyIn = s.busyIn := rfl
@[simp] theorem State.memFill_samples (s : State) (v : Byte) :
    (s.memFill v).samples = s.samples := rfl

/-! ### openGate -/

@[simp] theorem State.openGate_cfg (s : State) (t : Nat) :
    (s.openGate t).cfg = s.cfg := rfl
@[simp] theorem State.openGate_fb (s : State) (t : Nat) :
    (s.openGate t).fb = s.fb := rfl
@[simp] theorem State.openGate_modeCounter (s : State) (t : Nat) :
    (s.openGate t).modeCounter = s.modeCounter := rfl
@[simp] theorem State.openGate_status (s : State) (t : Nat) :
    (s.openGate t).status = s.status := rfl
@[simp] theorem State.openGate_phase (s : State) (t : Nat) :
    (s.openGate t).phase = s.phase := rfl
@[simp] theorem State.openGate_seqStep (s : State) (t : Nat) :
    (s.openGate t).seqStep = s.seqStep := rfl
@[simp] theorem State.openGate_dc (s : State) (t : Nat) :
    (s.openGate t).dc = s.dc := rfl
@[simp] theorem State.openGate_csN (s : State) (t : Nat) :
    (s.openGate t).csN = s.csN := rfl
@[simp] theorem State.openGate_sclk (s : State) (t : Nat) :
    (s.openGate t).sclk = s.sclk := rfl
@[simp] theorem State.openGate_mosi (s : State) (t : Nat) :
    (s.openGate t).mosi = s.mosi := rfl
@[simp] theorem State.openGate_rstN (s : State) (t : Nat) :
    (s.openGate t).rstN = s.rstN := rfl
@[simp] theorem State.openGate_busy (s : State) (t : Nat) :
    (s.openGate t).busy = s.busy := rfl
@[simp] theorem State.openGate_gateStart (s : State) (t : Nat) :
    (s.openGate t).gateStart = if s.cfg.hasBusy then s.now else s.gateStart := rfl
@[simp] theorem State.openGate_gateLimit (s : State) (t : Nat) :
    (s.openGate t).gateLimit = if s.cfg.hasBusy then t else s.gateLimit := rfl
@[simp] theorem State.openGate_gateReturn (s : State) (t : Nat) :
    (s.openGate t).gateReturn = s.gateReturn := rfl
@[simp] theorem State.openGate_now (s : State) (t : Nat) :
    (s.openGate t).now = s.now := rfl
@[simp] theorem State.openGate_trace (s : State) (t : Nat) :
    (s.openGate t).trace = s.trace := rfl
@[simp] theorem State.openGate_response (s : State) (t : Nat) :
    (s.openGate t).response = s.response := rfl
@[simp] theorem State.openGate_wire (s : State) (t : Nat) :
    (s.openGate t).wire = s.wire := rfl
@[simp] theorem State.openGate_requests (s : State) (t : Nat) :
    (s.openGate t).requests = s.requests := rfl
@[simp] theorem State.openGate_busyIn (s : State) (t : Nat) :
    (s.openGate t).busyIn = s.busyIn := rfl
@[simp] theorem State.openGate_samples (s : State) (t : Nat) :
    (s.openGate t).samples = s.samples := rfl

/-! ### send -/

@[simp] theorem State.send_cfg (s : State) (ts : List Tx) :
    (s.send ts).cfg = s.cfg := rfl
@[simp] theorem State.send_fb (s : State) (ts : List Tx) :
    (s.send ts).fb = s.fb := rfl
@[simp] theorem State.send_modeCounter (s : State) (ts : List Tx) :
    (s.send ts).modeCounter = s.modeCounter := rfl
@[simp] theorem State.send_status (s : State) (ts : List Tx) :
    (s.send ts).status = s.status := rfl
@[simp] theorem State.send_phase (s : State) (ts : List Tx) :
    (s.send ts).phase = s.phase := rfl
@[simp] theorem State.send_seqStep (s : State) (ts : List Tx) :
    (s.send ts).seqStep = s.seqStep := rfl
@[simp] theorem State.send_dc (s : State) (ts : List Tx) :
    (s.send ts).dc = (ts.getLast?.map (fun t => dcLevel s.cfg t.kind)).getD s.dc := rfl
@[simp] theorem State.send_csN (s : State) (ts : List Tx) :
    (s.send ts).csN = afterStream ts s.csN true := rfl
@[simp] theorem State.send_sclk (s : State) (ts : List Tx) :
    (s.send ts).sclk = afterStream ts s.sclk s.cfg.bus.sclkIdle := rfl
@[simp] theorem State.send_mosi (s : State) (ts : List Tx) :
    (s.send ts).mosi = afterStream ts s.mosi s.cfg.bus.mosiIdle := rfl
@[simp] theorem State.send_rstN (s : State) (ts : List Tx) :
    (s.send ts).rstN = s.rstN := rfl
@[simp] theorem State.send_busy (s : State) (ts : List Tx) :
    (s.send ts).busy = s.busy := rfl
@[simp] theorem State.send_gateStart (s : State) (ts : List Tx) :
    (s.send ts).gateStart = s.gateStart := rfl
@[simp] theorem State.send_gateLimit (s : State) (ts : List Tx) :
    (s.send ts).gateLimit = s.gateLimit := rfl
@[simp] theorem State.send_gateReturn (s : State) (ts : List Tx) :
    (s.send ts).gateReturn = s.gateReturn := rfl
@[simp] theorem State.send_now (s : State) (ts : List Tx) :
    (s.send ts).now = s.now := rfl
@[simp] theorem State.send_trace (s : State) (ts : List Tx) :
    (s.send ts).trace = s.trace ++ ts.map txEvent := rfl
@[simp] theorem State.send_response (s : State) (ts : List Tx) :
    (s.send ts).response = s.response := rfl
@[simp] theorem State.send_wire (s : State) (ts : List Tx) :
    (s.send ts).wire = s.wire ++ ts.flatMap (txWire s.cfg) := rfl
@[simp] theorem State.send_requests (s : State) (ts : List Tx) :
    (s.send ts).requests = s.requests := rfl
@[simp] theorem State.send_busyIn (s : State) (ts : List Tx) :
    (s.send ts).busyIn = s.busyIn := rfl
@[simp] theorem State.send_samples (s : State) (ts : List Tx) :
    (s.send ts).samples = s.samples := rfl

end Sys2Proof.Machine
end

