-- ==== Sys2Proof/Laws/Channel.lean ====
section
/-! SUPPORT. The laws of the framer: a transaction is a stream of one, streams join, and a stream keeps the bus
idle and the line history in step with `trace`. -/

namespace Sys2Proof.Machine

@[simp] theorem State.send_nil (s : State) : s.send [] = s := by
  cases s; simp [State.send, afterStream]

theorem afterStream_append (a b : List Tx) (old v : Level) :
    afterStream (a ++ b) old v = afterStream b (afterStream a old v) v := by
  cases a <;> cases b <;> simp [afterStream]

/-- A stream that joins two is the one after the other. -/
theorem State.send_append (s : State) (a b : List Tx) : s.send (a ++ b) = (s.send a).send b := by
  cases s
  simp only [State.send, afterStream_append, List.map_append, List.flatMap_append, List.append_assoc,
    List.getLast?_append]
  cases h : b.getLast? <;> simp

/-- A transaction, driven line by line, is the stream of one (R121). -/
theorem State.tx_eq_send (s : State) (t : Tx) : s.tx t = s.send [t] := by
  cases s
  simp [State.tx, State.send, State.driveDc, State.driveCs, State.shiftByte, State.shiftBit,
    State.busIdle, State.log, afterStream, txWire, busBits]

/-- The line drives a transaction's event stands for are the transaction's. -/
@[simp] theorem eventWire_txEvent (c : Config) (t : Tx) : eventWire c (txEvent t) = txWire c t := by
  obtain ⟨k, b⟩ := t
  cases k <;> rfl

/-- A stream's line drives are those of its events, in order (R66). -/
theorem flatMap_eventWire_txEvent (c : Config) (ts : List Tx) :
    (ts.map txEvent).flatMap (eventWire c) = ts.flatMap (txWire c) := by
  induction ts with
  | nil => rfl
  | cons t ts ih => simp [ih]

@[simp] theorem length_commandTxs (code : Byte) (ds : List Byte) :
    (commandTxs code ds).length = ds.length + 1 := by
  simp [commandTxs]

theorem afterStream_idle (ts : List Tx) (v : Level) : afterStream ts v v = v := by
  simp [afterStream]

end Sys2Proof.Machine
end

