-- ==== Sys2Proof/Laws/Decode.lean ====
section
/-! SUPPORT. The bits of an encoded request, one lemma a format: what each bit of the word is (spec/30_encoding.md
R71). -/

namespace Sys2Proof

/-- Format P, bit by bit. -/
theorem getLsbD_encodeP (op : BitVec 4) (c : Colour) (y x : BitVec 12) (i : Nat) :
    (encodeP op c y x).getLsbD i =
      if i < 12 then x.getLsbD i else if i < 24 then y.getLsbD (i - 12)
      else if i < 27 then false else if i < 28 then (colourBit c).getLsbD (i - 27)
      else op.getLsbD (i - 28) := by
  show BitVec.getLsbD (w := 4 + 1 + 3 + 12 + 12) (op ++ colourBit c ++ 0#3 ++ y ++ x) i = _
  simp only [BitVec.getLsbD_append, BitVec.getLsbD_zero]
  repeat' split
  all_goals first | rfl | omega

/-- Format F, bit by bit. -/
theorem getLsbD_encodeF (op : BitVec 4) (c : Colour) (i : Nat) :
    (encodeF op c).getLsbD i =
      if i < 27 then false else if i < 28 then (colourBit c).getLsbD (i - 27)
      else op.getLsbD (i - 28) := by
  show BitVec.getLsbD (w := 4 + 1 + 27) (op ++ colourBit c ++ 0#27) i = _
  simp only [BitVec.getLsbD_append, BitVec.getLsbD_zero]
  repeat' split
  all_goals first | rfl | omega

/-- Format I16, bit by bit. -/
theorem getLsbD_encodeI16 (op : BitVec 4) (imm : BitVec 16) (i : Nat) :
    (encodeI16 op imm).getLsbD i =
      if i < 16 then imm.getLsbD i else if i < 28 then false else op.getLsbD (i - 28) := by
  show BitVec.getLsbD (w := 4 + 12 + 16) (op ++ 0#12 ++ imm) i = _
  simp only [BitVec.getLsbD_append, BitVec.getLsbD_zero]
  repeat' split
  all_goals first | rfl | omega

/-- Format B, bit by bit. -/
theorem getLsbD_encodeB (op : BitVec 4) (b : Byte) (i : Nat) :
    (encodeB op b).getLsbD i =
      if i < 8 then b.getLsbD i else if i < 28 then false else op.getLsbD (i - 28) := by
  show BitVec.getLsbD (w := 4 + 20 + 8) (op ++ 0#20 ++ b) i = _
  simp only [BitVec.getLsbD_append, BitVec.getLsbD_zero]
  repeat' split
  all_goals first | rfl | omega

/-- Format N, bit by bit. -/
theorem getLsbD_encodeN (op : BitVec 4) (i : Nat) :
    (encodeN op).getLsbD i = if i < 28 then false else op.getLsbD (i - 28) := by
  show BitVec.getLsbD (w := 4 + 28) (op ++ 0#28) i = _
  simp only [BitVec.getLsbD_append, BitVec.getLsbD_zero]

/-- A field of a word, bit by bit. -/
theorem extractLsb'_eq_of_bits {n : Nat} (w : Word) (lo : Nat) (v : BitVec n)
    (h : ∀ i, i < n → w.getLsbD (lo + i) = v.getLsbD i) : w.extractLsb' lo n = v := by
  apply BitVec.eq_of_getLsbD_eq
  intro i hi
  rw [BitVec.getLsbD_extractLsb', h i hi]
  simp [hi]

/-- All the decoder can read from a word: the opcode, the reserved bits and the request, row by row (R77). -/
theorem decode_cases {w : Word} {i : Instr} (h : decode w = .ok i) :
    (opcodeOf w = 1#4 ∧ w.extractLsb' 24 3 = 0#3 ∧ i = .setpx (xOf w) (yOf w) (colourOf w))
      ∨ (opcodeOf w = 2#4 ∧ w.extractLsb' 0 27 = 0#27 ∧ i = .fill (colourOf w))
      ∨ (opcodeOf w = 3#4 ∧ w.extractLsb' 0 28 = 0#28 ∧ i = .len)
      ∨ (opcodeOf w = 4#4 ∧ w.extractLsb' 16 12 = 0#12 ∧ i = .rdbyte (imm16Of w))
      ∨ (opcodeOf w = 5#4 ∧ w.extractLsb' 8 20 = 0#20 ∧ i = .cmd (byteOf w))
      ∨ (opcodeOf w = 6#4 ∧ w.extractLsb' 8 20 = 0#20 ∧ i = .data (byteOf w))
      ∨ (opcodeOf w = 7#4 ∧ w.extractLsb' 16 12 = 0#12 ∧ i = .wait (imm16Of w))
      ∨ (opcodeOf w = 8#4 ∧ w.extractLsb' 0 28 = 0#28 ∧ i = .setup)
      ∨ (opcodeOf w = 9#4 ∧ w.extractLsb' 0 28 = 0#28 ∧ i = .display)
      ∨ (opcodeOf w = 10#4 ∧ w.extractLsb' 0 28 = 0#28 ∧ i = .status) := by
  have key : ∀ n : Nat, n < 16 → (opcodeOf w).toNat = n → opcodeOf w = BitVec.ofNat 4 n := by
    intro n hn h
    apply BitVec.eq_of_toNat_eq
    simp [h]
    omega
  unfold decode at h
  split at h <;> rename_i heq
  all_goals first
    | (have := key _ (by omega) heq
       simp only [checked] at h
       split at h
       · simp at h
         simp_all
       · simp at h)
    | simp at h

end Sys2Proof
end

