-- ==== Sys2Proof/Laws/Gate.lean ====
section
/-! SUPPORT. What a busy gate can do: one lemma for the poll loop, whatever the draws and the order, and the bound
on its duration. -/

namespace Sys2Proof.Machine

/-- An event a gate may append: a sample or the timeout (R141, R149). -/
def isGateEvent : Event → Bool
  | .cmd _ => false
  | .data _ => false
  | .rst _ => false
  | .sample _ _ => true
  | .busyTimeout => true

/-- All a gate's poll loop can do to a state: time passes, samples are taken, gate events are appended. Every
other field is as it was. -/
def PollFrame (s t : State) : Prop :=
  ∃ (n : Nat) (es : List Event), (∀ e ∈ es, isGateEvent e = true) ∧
    t = { s with
      now := s.now + n, busy := t.busy, busyIn := t.busyIn, samples := t.samples,
      trace := s.trace ++ es }

theorem PollFrame.refl (s : State) : PollFrame s s := ⟨0, [], by simp, by cases s; simp⟩

theorem PollFrame.trans {s t u : State} (h : PollFrame s t) (k : PollFrame t u) : PollFrame s u := by
  obtain ⟨n, es, he, ht⟩ := h
  obtain ⟨m, fs, hf, hu⟩ := k
  refine ⟨n + m, es ++ fs, ?_, ?_⟩
  · intro e h
    rcases List.mem_append.1 h with h | h
    · exact he e h
    · exact hf e h
  · rw [hu, ht]; simp [Nat.add_assoc]

theorem PollFrame.sampleBusy (s : State) : PollFrame s s.sampleBusy :=
  ⟨0, [.sample s.now (s.upcomingBusy 0)], by simp [isGateEvent], by cases s; rfl⟩

theorem PollFrame.delay (s : State) (n : Nat) : PollFrame s (s.delay n) :=
  ⟨n, [], by simp, by cases s; simp [State.delay]⟩

theorem PollFrame.raiseBusyTimeout (s : State) : PollFrame s s.raiseBusyTimeout :=
  ⟨0, [.busyTimeout], by simp [isGateEvent], by cases s; rfl⟩

/-- The poll loop touches only the clock, the BUSY input and `trace` (R143, R147, R148). -/
theorem pollLoop_frame (o : GateOrder) (n : Nat) (s : State) : PollFrame s (pollLoop o n s).2 := by
  induction n generalizing s with
  | zero => exact .refl s
  | succ n ih =>
    cases o <;> simp only [pollLoop] <;> split
    · exact .raiseBusyTimeout s
    · split
      · exact .sampleBusy s
      · exact ((PollFrame.sampleBusy s).trans (.delay _ _)).trans (ih _)
    · exact .sampleBusy s
    · split
      · exact (PollFrame.sampleBusy s).trans (.raiseBusyTimeout _)
      · exact ((PollFrame.sampleBusy s).trans (.delay _ _)).trans (ih _)

/-- A gate from where its registers say it stands touches only the clock, the BUSY input and `trace`. -/
theorem State.pollGate_frame (s : State) : PollFrame s s.pollGate.2 := by
  unfold State.pollGate
  split
  · exact pollLoop_frame _ _ _
  · exact .refl s

/-- So a gate leaves `rst_n`, `mode_counter` and `status` as they were. -/
theorem PollFrame.flags {s t : State} (h : PollFrame s t) :
    t.rstN = s.rstN ∧ t.modeCounter = s.modeCounter ∧ t.status = s.status := by
  obtain ⟨n, es, _, ht⟩ := h
  rw [ht]
  exact ⟨rfl, rfl, rfl⟩

/-- After one sample and a delay, the samples to come are those that came after it (R141). -/
theorem State.upcomingBusy_sampleBusy_delay (s : State) (n j : Nat) :
    (s.sampleBusy.delay n).upcomingBusy j = s.upcomingBusy (j + 1) := by
  simp only [State.upcomingBusy, State.delay_busyIn, State.delay_samples, State.sampleBusy_busyIn,
    State.sampleBusy_samples]
  cases s.busyIn with
  | nil => simp; congr 1; omega
  | cons a l => simp; congr 2; omega

/-- Before its limit has passed a gate that began `e` units ago is within it (R143). -/
theorem State.within_of_not_expired {s : State} {e : Nat} (he : s.now = s.gateStart + e)
    (h : ¬s.gateExpired = true) : e ≤ s.gateLimit := by
  simp only [State.gateExpired, decide_eq_true_eq, he] at h
  omega

/-- The poll loop ends at the latest at the first multiple of the interval past the limit (R146). -/
theorem pollLoop_duration (o : GateOrder) (n : Nat) (s : State) (e : Nat)
    (he : s.now = s.gateStart + e) :
    (pollLoop o n s).2.now ≤ s.now + 10 * ((s.gateLimit + 10 - e) / 10) := by
  induction n generalizing s e with
  | zero => exact Nat.le_add_right _ _
  | succ n ih =>
    have step : ∀ t : State, t = s.sampleBusy.delay Config.pollInterval → e ≤ s.gateLimit →
        (pollLoop o n t).2.now ≤ s.now + 10 * ((s.gateLimit + 10 - e) / 10) := by
      intro t ht hle
      have hn : t.now = s.now + 10 := by rw [ht]; rfl
      have hg : t.gateLimit = s.gateLimit := by rw [ht]; rfl
      have hs : t.gateStart = s.gateStart := by rw [ht]; rfl
      have := ih t (e + 10) (by omega)
      rw [hn, hg] at this
      omega
    cases o <;> simp only [pollLoop] <;> split
    · exact Nat.le_add_right _ _
    · rename_i hx
      split
      · exact Nat.le_add_right _ _
      · exact step _ rfl (State.within_of_not_expired he hx)
    · exact Nat.le_add_right _ _
    · split
      · exact Nat.le_add_right _ _
      · rename_i hx
        exact step _ rfl (State.within_of_not_expired (s := s.sampleBusy) he hx)

/-- With rounds enough, a loop that answers false has raised the timeout last (R145, R149, log 25). -/
theorem pollLoop_false_raises (o : GateOrder) (n : Nat) (s : State) (e : Nat)
    (he : s.now = s.gateStart + e) (hn : s.gateLimit < e + 10 * (n - 1)) (hp : 0 < n)
    (hf : (pollLoop o n s).1 = false) : (pollLoop o n s).2.trace.getLast? = some .busyTimeout := by
  induction n generalizing s e with
  | zero => omega
  | succ n ih =>
    have step : ∀ t : State, t = s.sampleBusy.delay Config.pollInterval → e ≤ s.gateLimit →
        (pollLoop o n t).1 = false → (pollLoop o n t).2.trace.getLast? = some .busyTimeout := by
      intro t ht hle hf
      have hnow : t.now = s.now + 10 := by rw [ht]; rfl
      have hg : t.gateLimit = s.gateLimit := by rw [ht]; rfl
      have hs : t.gateStart = s.gateStart := by rw [ht]; rfl
      exact ih t (e + 10) (by omega) (by omega) (by omega) hf
    cases o <;> simp only [pollLoop] at hf ⊢
    · by_cases hx : s.gateExpired = true
      · simp [hx]
      · simp only [if_neg hx] at hf ⊢
        by_cases hb : s.sampleBusy.busy = false
        · simp only [if_pos hb, Bool.true_eq_false] at hf
        · simp only [if_neg hb] at hf ⊢
          exact step _ rfl (State.within_of_not_expired he hx) hf
    · by_cases hb : s.sampleBusy.busy = false
      · simp only [if_pos hb, Bool.true_eq_false] at hf
      · simp only [if_neg hb] at hf ⊢
        by_cases hx : s.sampleBusy.gateExpired = true
        · simp [hx]
        · simp only [if_neg hx] at hf ⊢
          exact step _ rfl (State.within_of_not_expired (s := s.sampleBusy) he hx) hf

/-- The rounds a gate is given are enough (log 25). -/
theorem State.pollGate_false_raises (s : State) (h : s.gateStart ≤ s.now) (hf : s.pollGate.1 = false) :
    s.pollGate.2.trace.getLast? = some .busyTimeout := by
  unfold State.pollGate at hf ⊢
  split at hf
  · rename_i hb
    simp only [hb, if_true]
    refine pollLoop_false_raises _ _ _ (s.now - s.gateStart) (by omega) ?_ (by simp [State.pollRounds]) hf
    simp only [State.pollRounds, Config.pollInterval]
    omega
  · simp at hf

end Sys2Proof.Machine
end

