-- ==== Sys2Proof/Laws/Memory.lean ====
section
/-! SUPPORT. The laws of the framebuffer memory: reads after writes, and that every operation keeps the canonical
form. -/

namespace Sys2Proof.Machine

theorem Memory.wf_iff (len : Nat) (m : Memory) : m.wf len = true ↔ m.map Prod.fst = List.range len := by
  simp [Memory.wf]

theorem Memory.read_isSome_iff (m : Memory) (i : Nat) : (m.read i).isSome = true ↔ i ∈ m.map Prod.fst := by
  induction m with
  | nil => simp [Memory.read]
  | cons c cs ih =>
    by_cases h : c.1 = i
    · simp [Memory.read, h]
    · simp only [Memory.read, if_neg h, ih, List.map_cons, List.mem_cons]
      exact ⟨.inr, fun h' => h'.resolve_left (fun e => h e.symm)⟩

theorem Memory.read_isSome_of_wf {len : Nat} {m : Memory} (h : m.wf len = true) (i : Nat) :
    (m.read i).isSome = true ↔ i < len := by
  rw [Memory.read_isSome_iff, (Memory.wf_iff len m).1 h, List.mem_range]

theorem Memory.exists_read {len : Nat} {m : Memory} (h : m.wf len = true) {i : Nat} (hi : i < len) :
    ∃ v, m.read i = some v :=
  Option.isSome_iff_exists.1 ((Memory.read_isSome_of_wf h i).2 hi)

/-- A write adds, drops and moves no cell. -/
@[simp] theorem Memory.write_addresses (m : Memory) (i : Nat) (v : Byte) :
    (m.write i v).map Prod.fst = m.map Prod.fst := by
  induction m with
  | nil => rfl
  | cons c cs ih => by_cases h : c.1 = i <;> simp [Memory.write, h, ih]

@[simp] theorem Memory.fill_addresses (m : Memory) (v : Byte) :
    (m.fill v).map Prod.fst = m.map Prod.fst := by
  simp [Memory.fill]

theorem Memory.read_write_other (m : Memory) {i j : Nat} (v : Byte) (h : j ≠ i) :
    (m.write i v).read j = m.read j := by
  induction m with
  | nil => rfl
  | cons c cs ih =>
    by_cases hc : c.1 = i
    · simp [Memory.write, Memory.read, hc, h.symm]
    · simp only [Memory.write, if_neg hc, Memory.read, ih]

theorem Memory.read_write_same (m : Memory) {i : Nat} (v : Byte) (h : (m.read i).isSome = true) :
    (m.write i v).read i = some v := by
  induction m with
  | nil => simp [Memory.read] at h
  | cons c cs ih =>
    by_cases hc : c.1 = i
    · simp [Memory.write, Memory.read, hc]
    · simp only [Memory.read, if_neg hc] at h
      simp [Memory.write, Memory.read, hc, ih h]

theorem Memory.read_fill (m : Memory) (v : Byte) (i : Nat) :
    (m.fill v).read i = (m.read i).map (fun _ => v) := by
  induction m with
  | nil => rfl
  | cons c cs ih =>
    by_cases hc : c.1 = i
    · simp [Memory.fill, Memory.read, hc]
    · simpa [Memory.fill, Memory.read, hc] using ih

@[simp] theorem Memory.wf_write (len : Nat) (m : Memory) (i : Nat) (v : Byte) :
    (m.write i v).wf len = m.wf len := by
  simp [Memory.wf]

@[simp] theorem Memory.wf_fill (len : Nat) (m : Memory) (v : Byte) : (m.fill v).wf len = m.wf len := by
  simp [Memory.wf]

theorem Memory.drawnFrom_addresses (n i : Nat) :
    (Memory.drawnFrom n i).map Prod.fst = List.range' i n := by
  induction n generalizing i with
  | zero => rfl
  | succ n ih => simp [Memory.drawnFrom, ih, List.range'_succ]

theorem Memory.wf_drawn (len : Nat) : (Memory.drawn len).wf len = true := by
  simp [Memory.wf, Memory.drawn, Memory.drawnFrom_addresses, List.range_eq_range']

theorem Memory.read_drawnFrom (n i j : Nat) (h1 : i ≤ j) (h2 : j < i + n) :
    (Memory.drawnFrom n i).read j = some (Config.freeFbByte j) := by
  induction n generalizing i with
  | zero => omega
  | succ n ih =>
    by_cases h : i = j
    · simp [Memory.drawnFrom, Memory.read, h]
    · simp only [Memory.drawnFrom, Memory.read, if_neg h]
      exact ih (i + 1) (by omega) (by omega)

theorem Memory.length_bytes {len : Nat} {m : Memory} (h : m.wf len = true) : m.bytes.length = len := by
  have := congrArg List.length ((Memory.wf_iff len m).1 h)
  simpa [Memory.bytes] using this

/-- With distinct addresses, a cell's byte is what its address reads. -/
theorem Memory.read_of_mem (m : Memory) (hn : (m.map Prod.fst).Nodup) (c : Host.Cell) (hc : c ∈ m) :
    m.read c.1 = some c.2 := by
  induction m with
  | nil => simp at hc
  | cons d ds ih =>
    simp only [List.map_cons, List.nodup_cons] at hn
    rcases List.mem_cons.1 hc with rfl | hc
    · simp [Memory.read]
    · have : d.1 ≠ c.1 := fun e => hn.1 (e ▸ List.mem_map_of_mem (f := Prod.fst) hc)
      simp [Memory.read, this, ih hn.2 hc]

/-- The stream of a framebuffer's bytes is its reads in ascending index order (R59). -/
theorem Memory.bytes_eq_reads {len : Nat} {m : Memory} (h : m.wf len = true) :
    m.bytes.map some = (List.range len).map m.read := by
  have ha := (Memory.wf_iff len m).1 h
  have hn : (m.map Prod.fst).Nodup := by rw [ha]; exact List.nodup_range
  rw [← ha, Memory.bytes, List.map_map, List.map_map]
  exact List.map_congr_left fun c hc => (Memory.read_of_mem m hn c hc).symm

/-- Equal reads, equal memories: the form is canonical. -/
theorem Memory.ext_of_wf {len : Nat} {m n : Memory} (hm : m.wf len = true) (hn : n.wf len = true)
    (h : ∀ i, i < len → m.read i = n.read i) : m = n := by
  have hb : m.bytes = n.bytes := by
    have : m.bytes.map some = n.bytes.map some := by
      rw [Memory.bytes_eq_reads hm, Memory.bytes_eq_reads hn]
      exact List.map_congr_left fun i hi => h i (List.mem_range.1 hi)
    exact List.map_injective_iff.2 (Option.some_injective _) this
  have ha : m.map Prod.fst = n.map Prod.fst := by
    rw [(Memory.wf_iff len m).1 hm, (Memory.wf_iff len n).1 hn]
  have key : ∀ l : Memory, l = (l.map Prod.fst).zip l.bytes := fun l =>
    (List.zip_unzip l).symm.trans (by rw [List.unzip_eq_map]; rfl)
  rw [key m, key n, ha, hb]

end Sys2Proof.Machine
end

