-- ==== Sys2Proof/Laws/PerInstr.lean ====
section
/-! SUPPORT. What is said of each request as syntax: its word matches its own row of the opcode map
(spec/30_encoding.md R77). -/

namespace Sys2Proof.Laws.MatchesItsRow

open Sys2Proof

/-- The word of a request has its row's mask and match. -/
def Statement (i : Instr) : Prop := rowMatches (encode i) (opcodeRow i) = true

theorem format_p (op : BitVec 4) (c : Colour) (y x : BitVec 12) :
    encodeP op c y x &&& 0xF7000000#32 = encodeP op .white 0#12 0#12 := by
  apply BitVec.eq_of_getLsbD_eq
  intro i hi
  rw [BitVec.getLsbD_and, getLsbD_encodeP, getLsbD_encodeP]
  interval_cases i <;> simp [colourBit]

theorem format_f (op : BitVec 4) (c : Colour) :
    encodeF op c &&& 0xF7FFFFFF#32 = encodeF op .white := by
  apply BitVec.eq_of_getLsbD_eq
  intro i hi
  rw [BitVec.getLsbD_and, getLsbD_encodeF, getLsbD_encodeF]
  interval_cases i <;> simp [colourBit]

theorem format_i16 (op : BitVec 4) (imm : BitVec 16) :
    encodeI16 op imm &&& 0xFFFF0000#32 = encodeI16 op 0#16 := by
  apply BitVec.eq_of_getLsbD_eq
  intro i hi
  rw [BitVec.getLsbD_and, getLsbD_encodeI16, getLsbD_encodeI16]
  interval_cases i <;> simp

theorem format_b (op : BitVec 4) (b : Byte) :
    encodeB op b &&& 0xFFFFFF00#32 = encodeB op 0#8 := by
  apply BitVec.eq_of_getLsbD_eq
  intro i hi
  rw [BitVec.getLsbD_and, getLsbD_encodeB, getLsbD_encodeB]
  interval_cases i <;> simp

theorem setpx (x y : Int) (c : Colour) : Statement (.setpx x y c) := by
  simp only [Statement, rowMatches, encode, opcodeRow, format_p]; decide

theorem fill (c : Colour) : Statement (.fill c) := by
  simp only [Statement, rowMatches, encode, opcodeRow, format_f]; decide

theorem len : Statement .len := by
  simp only [Statement]; decide

theorem rdbyte (i : Nat) : Statement (.rdbyte i) := by
  simp only [Statement, rowMatches, encode, opcodeRow, format_i16]; decide

theorem cmd (b : Byte) : Statement (.cmd b) := by
  simp only [Statement, rowMatches, encode, opcodeRow, format_b]; decide

theorem data (b : Byte) : Statement (.data b) := by
  simp only [Statement, rowMatches, encode, opcodeRow, format_b]; decide

theorem wait (t : Nat) : Statement (.wait t) := by
  simp only [Statement, rowMatches, encode, opcodeRow, format_i16]; decide

theorem setup : Statement .setup := by
  simp only [Statement]; decide

theorem display : Statement .display := by
  simp only [Statement]; decide

theorem status : Statement .status := by
  simp only [Statement]; decide

end Sys2Proof.Laws.MatchesItsRow
end

