-- ==== Sys2Proof/Laws/Sequence.lean ====
section
/-! SUPPORT. What a sub-step of a sequence can do, whichever it is, and what the sequencer can do: one lemma each,
which later proofs cite instead of unfolding the sequences. -/

namespace Sys2Proof.Machine

/-- All that sub-steps can do to a state. -/
structure SeqFrame (s t : State) : Prop where
  cfg : t.cfg = s.cfg
  fb : t.fb = s.fb
  phase : t.phase = s.phase
  gateReturn : t.gateReturn = s.gateReturn
  requests : t.requests = s.requests
  response : t.response = s.response
  now : s.now ≤ t.now
  gate : s.gateStart ≤ s.now → t.gateStart ≤ t.now
  history : ∃ es, t.trace = s.trace ++ es ∧ t.wire = s.wire ++ es.flatMap (eventWire s.cfg)
  bus : s.csN = true ∧ s.sclk = s.cfg.bus.sclkIdle ∧ s.mosi = s.cfg.bus.mosiIdle →
    t.csN = true ∧ t.sclk = t.cfg.bus.sclkIdle ∧ t.mosi = t.cfg.bus.mosiIdle
  lines : t.wire = s.wire → t.dc = s.dc ∧ t.csN = s.csN ∧ t.sclk = s.sclk ∧ t.mosi = s.mosi

theorem SeqFrame.refl (s : State) : SeqFrame s s :=
  ⟨rfl, rfl, rfl, rfl, rfl, rfl, le_refl _, id, ⟨[], by simp⟩, id, fun _ => ⟨rfl, rfl, rfl, rfl⟩⟩

theorem SeqFrame.trans {s t u : State} (h : SeqFrame s t) (k : SeqFrame t u) : SeqFrame s u where
  cfg := k.cfg.trans h.cfg
  fb := k.fb.trans h.fb
  phase := k.phase.trans h.phase
  gateReturn := k.gateReturn.trans h.gateReturn
  requests := k.requests.trans h.requests
  response := k.response.trans h.response
  now := h.now.trans k.now
  gate := fun x => k.gate (h.gate x)
  history := by
    obtain ⟨es, h1, h2⟩ := h.history
    obtain ⟨fs, k1, k2⟩ := k.history
    exact ⟨es ++ fs, by simp [k1, h1], by simp [k2, h2, h.cfg]⟩
  bus := fun x => k.bus (h.bus x)
  lines := by
    obtain ⟨es, _, h2⟩ := h.history
    obtain ⟨fs, _, k2⟩ := k.history
    intro hw
    have hz : es.flatMap (eventWire s.cfg) = [] ∧ fs.flatMap (eventWire t.cfg) = [] := by
      rw [k2, h2, List.append_assoc] at hw
      exact List.append_eq_nil_iff.1 (List.append_cancel_left (hw.trans (List.append_nil _).symm))
    obtain ⟨a, b, c, d⟩ := h.lines (by simp [h2, hz.1])
    obtain ⟨a', b', c', d'⟩ := k.lines (by simp [k2, hz.2])
    exact ⟨a'.trans a, b'.trans b, c'.trans c, d'.trans d⟩

theorem SeqFrame.atStep (s : State) (k : SeqStep) : SeqFrame s (s.atStep k) :=
  ⟨rfl, rfl, rfl, rfl, rfl, rfl, le_refl _, id, ⟨[], by simp⟩, id, fun _ => ⟨rfl, rfl, rfl, rfl⟩⟩

theorem SeqFrame.setStatus (s : State) (v : Status) : SeqFrame s (s.setStatus v) :=
  ⟨rfl, rfl, rfl, rfl, rfl, rfl, le_refl _, id, ⟨[], by simp⟩, id, fun _ => ⟨rfl, rfl, rfl, rfl⟩⟩

theorem SeqFrame.delay (s : State) (n : Nat) : SeqFrame s (s.delay n) :=
  ⟨rfl, rfl, rfl, rfl, rfl, rfl, Nat.le_add_right _ _, fun h => h.trans (Nat.le_add_right _ _),
    ⟨[], by simp⟩, id, fun _ => ⟨rfl, rfl, rfl, rfl⟩⟩

theorem SeqFrame.driveRst (s : State) (v : Level) : SeqFrame s (s.driveRst v) :=
  ⟨rfl, rfl, rfl, rfl, rfl, rfl, le_refl _, id, ⟨[.rst v], by simp [eventWire]⟩, id,
    fun _ => ⟨rfl, rfl, rfl, rfl⟩⟩

theorem SeqFrame.openGate (s : State) (n : Nat) : SeqFrame s (s.openGate n) :=
  ⟨rfl, rfl, rfl, rfl, rfl, rfl, le_refl _, fun h => by
    simp only [State.openGate_gateStart, State.openGate_now]; split <;> omega, ⟨[], by simp⟩, id, fun _ => ⟨rfl, rfl, rfl, rfl⟩⟩

theorem SeqFrame.send (s : State) (ts : List Tx) : SeqFrame s (s.send ts) where
  cfg := rfl
  fb := rfl
  phase := rfl
  gateReturn := rfl
  requests := rfl
  response := rfl
  now := le_refl _
  gate := id
  history := ⟨ts.map txEvent, by simp, by simp [flatMap_eventWire_txEvent]⟩
  bus := fun ⟨h1, h2, h3⟩ => by
    simp [h1, h2, h3, afterStream_idle]
  lines := by
    intro h
    cases ts with
    | nil => simp
    | cons t ts => simp [txWire] at h

theorem SeqFrame.dispatchLut (s : State) : SeqFrame s s.dispatchLut :=
  let h := SeqFrame.send s (dispatchTxs s.cfg s.modeCounter)
  ⟨rfl, rfl, rfl, rfl, rfl, rfl, h.now, h.gate, h.history, h.bus, h.lines⟩

/-- A gate's frame is a sub-step's frame. -/
theorem PollFrame.seqFrame {s t : State} (h : PollFrame s t) : SeqFrame s t := by
  obtain ⟨n, es, he, ht⟩ := h
  rw [ht]
  refine ⟨rfl, rfl, rfl, rfl, rfl, rfl, Nat.le_add_right _ _,
    fun h => h.trans (Nat.le_add_right _ _), ⟨es, rfl, ?_⟩, id, fun _ => ⟨rfl, rfl, rfl, rfl⟩⟩
  have : es.flatMap (eventWire s.cfg) = [] := by
    rw [List.flatMap_eq_nil_iff]
    intro e hm
    have := he e hm
    cases e <;> simp_all [isGateEvent, eventWire]
  simp [this]

/-- Every sub-step keeps to the frame. -/
theorem runStep_frame (k : SeqStep) (s : State) : SeqFrame s (runStep k s).2 := by
  cases k with
  | pulseLow => exact (SeqFrame.driveRst s _).trans (.delay _ _)
  | pulseHigh => exact (SeqFrame.driveRst s _).trans (.delay _ _)
  | initScript => exact .send _ _
  | setupLuts => exact .send _ _
  | waitPoll => exact s.pollGate_frame.seqFrame
  | a1 => exact .openGate _ _
  | a1Poll => exact s.pollGate_frame.seqFrame
  | a2 => exact .dispatchLut s
  | a3 => exact .send _ _
  | a4 => exact .openGate _ _
  | a4Poll => exact s.pollGate_frame.seqFrame
  | a5 => exact .send _ _
  | a6 => exact .send _ _
  | a7 => exact .setStatus _ _
  | b1 => exact .openGate _ _
  | b1Poll => exact s.pollGate_frame.seqFrame
  | b2 => exact .send _ _
  | b3 => exact .send _ _
  | b4 => exact .send _ _
  | b5 => exact .setStatus _ _

/-- A sub-step that goes on hands its state to the rest of the sequence. -/
theorem runSequence_goes_on {k : SeqStep} {ks : List SeqStep} {s t : State}
    (h : runStep k (s.atStep k) = (true, t)) : runSequence (k :: ks) s = runSequence ks t := by
  simp [runSequence, h]

/-- A sub-step that fails ends the sequence (R207). -/
theorem runSequence_ends {k : SeqStep} {ks : List SeqStep} {s t : State}
    (h : runStep k (s.atStep k) = (false, t)) : runSequence (k :: ks) s = t.endSequence false := by
  simp [runSequence, h]

/-- What the sequencer can do, for any property that every sub-step of the list carries on: it ends the
sequence, one way or the other, in a state the property relates to the one it began in. -/
theorem runSequence_cases (R : State → State → Prop) (hr : ∀ s, R s s)
    (ks : List SeqStep) (hk : ∀ k ∈ ks, ∀ s t, R s t → R s (runStep k (t.atStep k)).2) (s : State) :
    ∃ t ok, R s t ∧ runSequence ks s = t.endSequence ok := by
  suffices h : ∀ t, R s t → ∃ u ok, R s u ∧ runSequence ks t = u.endSequence ok from h s (hr s)
  induction ks with
  | nil => exact fun t ht => ⟨t, true, ht, rfl⟩
  | cons k ks ih =>
    intro t ht
    have hn := hk k (by simp) s t ht
    rcases hr : runStep k (t.atStep k) with ⟨ok, u⟩
    rw [hr] at hn
    simp only [runSequence, hr]
    cases ok with
    | true => exact ih (fun k' hk' => hk k' (by simp [hk'])) u hn
    | false => exact ⟨u, false, hn, rfl⟩

/-- The sequencer keeps to the frame, and then ends the sequence. -/
theorem runSequence_frame (ks : List SeqStep) (s : State) :
    ∃ t ok, SeqFrame s t ∧ runSequence ks s = t.endSequence ok :=
  runSequence_cases SeqFrame .refl ks
    (fun k _ _ t h => (h.trans (.atStep t k)).trans (runStep_frame k _)) s

/-- The end of a sequence, in the phases that run one: the phase left for, no step, and a response. -/
theorem State.endSequence_cases (s : State) (ok : Bool) :
    (s.phase = .setup ∧ s.endSequence ok = s.complete .idle 0#16)
      ∨ (s.phase = .refreshing ∧ ok = true ∧ s.endSequence ok = s.complete .idle 1#16)
      ∨ (s.phase = .refreshing ∧ ok = false ∧ s.endSequence ok = s.abort)
      ∨ (s.phase = .waiting ∧ s.endSequence ok = s.complete s.gateReturn (boolValue ok))
      ∨ ((s.phase = .uninit ∨ s.phase = .idle) ∧ s.endSequence ok = s) := by
  unfold State.endSequence
  cases h : s.phase <;> cases ok <;> simp

/-- WAIT's sequence is its poll loop and then its end (R147). -/
theorem runSequence_waitSteps (s : State) (n : Nat) :
    ∃ t ok, PollFrame ((s.beginWait n).atStep .waitPoll) t
      ∧ runSequence waitSteps (s.beginWait n) = t.endSequence ok := by
  refine ⟨(((s.beginWait n).atStep .waitPoll).pollGate).2, (((s.beginWait n).atStep .waitPoll).pollGate).1,
    State.pollGate_frame _, ?_⟩
  simp only [waitSteps, runSequence, runStep]
  rcases h : ((s.beginWait n).atStep .waitPoll).pollGate with ⟨ok, t⟩
  cases ok <;> rfl

/-- SETUP's sequence always completes; it writes neither `status` nor `mode_counter`, and leaves RST released
where there is a pin (R161, R162). -/
theorem runSequence_setupSteps (s : State) :
    ∃ t, SeqFrame (s.beginSequence .setup) t ∧ t.status = s.status ∧ t.modeCounter = s.modeCounter
      ∧ t.rstN = (if s.cfg.hasReset then true else s.rstN)
      ∧ runSequence (setupSteps s.cfg) (s.beginSequence .setup) = t.complete .idle 0#16 := by
  have tail : ∀ u : State, u.phase = .setup → ∃ t, SeqFrame u t ∧ t.status = u.status
      ∧ t.modeCounter = u.modeCounter ∧ t.rstN = u.rstN
      ∧ runSequence [.initScript, .setupLuts] u = t.complete .idle 0#16 := by
    intro u hu
    refine ⟨_, ((SeqFrame.atStep u .initScript).trans (.send _ (scriptTxs u.cfg.profile.initScript))).trans
      ((SeqFrame.atStep _ .setupLuts).trans (.send _ (scriptTxs u.cfg.profile.setupLuts))), rfl, rfl, rfl, ?_⟩
    simp only [runSequence, runStep, State.endSequence]
    simp [hu]
  unfold setupSteps
  split
  · obtain ⟨t, f, a, b, c, e⟩ := tail
      (((((((s.beginSequence .setup).atStep .pulseLow).driveRst false).delay 200).atStep .pulseHigh).driveRst
        true).delay 200) rfl
    exact ⟨t, ((((((SeqFrame.atStep _ .pulseLow).trans (.driveRst _ _)).trans (.delay _ _)).trans
      (.atStep _ .pulseHigh)).trans (.driveRst _ _)).trans (.delay _ _)).trans f, a, b, c.trans (by simp), e⟩
  · obtain ⟨t, f, a, b, c, e⟩ := tail (s.beginSequence .setup) rfl
    exact ⟨t, f, a, b, c.trans (by simp), e⟩

/-- The end of a sequence writes neither memory, time, history, the counter nor `rst_n`. -/
theorem State.endSequence_frame (s : State) (ok : Bool) :
    (s.endSequence ok).cfg = s.cfg ∧ (s.endSequence ok).fb = s.fb ∧ (s.endSequence ok).requests = s.requests
      ∧ (s.endSequence ok).now = s.now ∧ (s.endSequence ok).trace = s.trace
      ∧ (s.endSequence ok).wire = s.wire ∧ (s.endSequence ok).modeCounter = s.modeCounter
      ∧ (s.endSequence ok).rstN = s.rstN := by
  unfold State.endSequence
  cases s.phase <;> cases ok <;> exact ⟨rfl, rfl, rfl, rfl, rfl, rfl, rfl, rfl⟩

end Sys2Proof.Machine
end

