-- ==== Sys2Proof/Laws/Step.lean ====
section
/-! SUPPORT. What a step can do, one lemma, and that the invariant does not look at the port. -/

namespace Sys2Proof.Machine

/-- All a step can do: with a ready port it waits a tick, executes the next request or answers an illegal word;
with a busy one it runs the rest of the sequence (R87). -/
theorem step_cases (s : State) :
    (s.portReady = true ∧ s.requests = [] ∧ step s = .next (s.delay 1))
      ∨ (∃ r rs i, s.portReady = true ∧ s.requests = r :: rs ∧ decode r.word = .ok i
          ∧ step s = exec i (s.accept r rs))
      ∨ (∃ r rs e, s.portReady = true ∧ s.requests = r :: rs ∧ decode r.word = .error e
          ∧ step s = .next ((s.accept r rs).reject .errIllegal))
      ∨ (s.portReady = false ∧ step s = resumeSequence s) := by
  cases hp : s.portReady with
  | false => exact .inr (.inr (.inr ⟨rfl, by simp [step, hp]⟩))
  | true =>
    cases hr : s.requests with
    | nil => exact .inl ⟨rfl, rfl, by simp [step, hp, hr, waitForRequest]⟩
    | cons r rs =>
      cases hd : decode r.word with
      | ok i => exact .inr (.inl ⟨r, rs, i, rfl, rfl, hd, by simp [step, hp, hr, hd]⟩)
      | error e =>
        exact .inr (.inr (.inl ⟨r, rs, e, rfl, rfl, hd, by simp [step, hp, hr, hd, answerIllegal]⟩))

/-- Taking a request keeps the invariant. -/
theorem Inv.accept {s : State} (h : Inv s) (r : Request) (rs : List Request) : Inv (s.accept r rs) :=
  ⟨h.profile, h.framebuffer, h.ready, h.noStep, h.counter, h.fresh, h.returnPhase, h.busIdle,
    h.resetReleased, le_trans h.gateBegan (Nat.le_add_right _ _), h.framing⟩

/-- Answering keeps the invariant. -/
theorem Inv.respond {s : State} (h : Inv s) (c : ResultCode) (v : BitVec 16) : Inv (s.respond c v) :=
  ⟨h.profile, h.framebuffer, h.ready, h.noStep, h.counter, h.fresh, h.returnPhase, h.busIdle,
    h.resetReleased, h.gateBegan, h.framing⟩

end Sys2Proof.Machine
end

