-- ==== Sys2Proof/Tests/Slice0.lean ====
section
/-! SUPPORT. The model's own tests: what the well-formedness checks refuse, words written out from the spec's
encodings, single steps with the results of spec/95_test_vectors.md, and a witness for the hypotheses of each
obligation. -/

namespace Sys2Proof.Tests

open Sys2Proof Sys2Proof.Machine Sys2Proof.Claims

/-! ### Small engines -/

/-- A 16 by 2 pixel profile: four framebuffer bytes. It is well-formed (R29) and no id's record, so that the
statements over well-formed profiles can be tried on it and no engine is built with it. -/
def tinyProfile (st : Strategy) : Profile :=
  { id := .a128x250, strategy := st, width := 16, height := 2, initScript := [⟨0x01#8, [0xAA#8]⟩], setupLuts := []
    lutFull := List.replicate 30 0xF1#8, lutPartial := List.replicate 30 0x0E#8 }

/-- The command bytes that R91 suggests. -/
def tinyCodes : CmdCode :=
  { writeLut := 0x32#8, setXWindow := 0x44#8, setYWindow := 0x45#8, setXCounter := 0x4E#8
    setYCounter := 0x4F#8, writeRam := 0x24#8, updateControl := 0x22#8, masterActivation := 0x20#8
    terminateFrame := 0xFF#8, dataTx1 := 0x10#8, dataTx2 := 0x13#8, displayRefresh := 0x12#8 }

/-- A configuration of that profile with `N = 3` and a reset pin. -/
def tinyConfig (st : Strategy) (busyPin : Bool) : Config :=
  { profile := tinyProfile st, fullUpdateEvery := 3#32, hasReset := true, hasBusy := busyPin
    cmdCode := tinyCodes, updateCtrlData := [0xC4#8], dcCmdLevel := false
    bus := { sclkIdle := false, mosiIdle := false }, b75Planes := .two, toneOn := 0x3#4
    gateOrder := .timeoutFirst, timeUnit := 1, updateInterval := 1 }

/-- Four framebuffer bytes. -/
def tinyMemory : Memory := [(0, 0xFF#8), (1, 0x00#8), (2, 0xEF#8), (3, 0xB0#8)]

/-- An engine of that configuration right after construction, before which `busyIn` BUSY levels are listed. -/
def fresh (c : Config) (busyIn : List Level) : State := { State.resetWith c tinyMemory with busyIn := busyIn }

/-- The same engine after SETUP. -/
def ready (c : Config) (busyIn : List Level) : State := { fresh c busyIn with phase := .idle }

/-- What holds of an outcome's next state. -/
def nextHas (p : State → Bool) : Result → Bool
  | .next t => p t
  | .fault _ => false
  | .refused _ => false

theorem tinyProfile_wf (st : Strategy) : (tinyProfile st).wf = true := by
  cases st <;> decide

theorem tinyMemory_wf (st : Strategy) : tinyMemory.wf (byteLength (tinyProfile st)) = true := by
  cases st <;> decide

theorem fresh_inv (st : Strategy) (b : Bool) (l : List Level) : Inv (fresh (tinyConfig st b) l) := by
  refine ⟨tinyProfile_wf st, tinyMemory_wf st, rfl, rfl, ?_, fun _ => ⟨rfl, rfl⟩, .inl rfl, ⟨rfl, rfl, rfl⟩, rfl,
    le_refl _, rfl⟩
  show counterLegal (tinyConfig st b) 0#32
  cases st <;> cases b <;> simp [counterLegal, tinyConfig, tinyProfile]

theorem ready_inv (st : Strategy) (b : Bool) (l : List Level) : Inv (ready (tinyConfig st b) l) :=
  let h := fresh_inv st b l
  ⟨h.profile, h.framebuffer, rfl, rfl, h.counter, (fun e => by cases e), .inl rfl, h.busIdle, rfl, h.gateBegan,
    rfl⟩

/-! ### What the well-formedness checks refuse (R29, R82, R10) -/

theorem test_wf_setpx_edges :
    Instr.wf (.setpx (-2048) 2047 .black) = true ∧ Instr.wf (.setpx 2047 (-2048) .white) = true := by decide
theorem test_wf_refuses_x_below : Instr.wf (.setpx (-2049) 0 .black) = false := by decide
theorem test_wf_refuses_x_above : Instr.wf (.setpx 2048 0 .black) = false := by decide
theorem test_wf_refuses_y_below : Instr.wf (.setpx 0 (-2049) .black) = false := by decide
theorem test_wf_refuses_y_above : Instr.wf (.setpx 0 2048 .black) = false := by decide
theorem test_wf_refuses_index : Instr.wf (.rdbyte 65536) = false ∧ Instr.wf (.rdbyte 65535) = true := by decide
theorem test_wf_refuses_timeout : Instr.wf (.wait 65536) = false ∧ Instr.wf (.wait 65535) = true := by decide
theorem test_assemble_refuses : assemble (.wait 65536) = none := by decide
theorem test_profile_admitted : (tinyProfile .a).wf = true ∧ (tinyProfile .b75).wf = true := by decide
theorem test_profile_refuses_width_mod_8 : { tinyProfile .b with width := 12 }.wf = false := by decide
theorem test_profile_refuses_width_0 : { tinyProfile .b with width := 0 }.wf = false := by decide
theorem test_profile_refuses_height_0 : { tinyProfile .b with height := 0 }.wf = false := by decide
theorem test_profile_refuses_height : { tinyProfile .b with width := 8, height := 65537 }.wf = false := by
  decide
theorem test_profile_refuses_length : { tinyProfile .b with width := 8, height := 65536 }.wf = false := by
  decide
theorem test_profile_refuses_wide_a :
    { tinyProfile .a with width := 2056 }.wf = false ∧ { tinyProfile .b with width := 2056 }.wf = true := by
  decide
theorem test_profile_refuses_short_setup_lut :
    { tinyProfile .b with setupLuts := [⟨0#8, List.replicate 29 0#8⟩] }.wf = false := by decide
theorem test_profile_refuses_short_lut :
    { tinyProfile .a with lutFull := List.replicate 29 0#8, lutPartial := List.replicate 29 0#8 }.wf = false := by
  decide
theorem test_profile_refuses_long_lut :
    { tinyProfile .a with lutFull := List.replicate 45 0#8, lutPartial := List.replicate 45 0#8 }.wf = false := by
  decide
theorem test_profile_refuses_unequal_luts :
    { tinyProfile .a with lutPartial := List.replicate 31 0#8 }.wf = false := by decide
theorem test_config_admits_table_row : configWf resetConfig = true := by decide
theorem test_config_refuses_time_unit : configWf { resetConfig with timeUnit := 0 } = false := by decide
/-- R8: a well-formed record that is none of the six. -/
theorem test_config_refuses_unlisted : configWf (tinyConfig .a true) = false := by decide
/-- R8: the right geometry under another id. -/
theorem test_config_refuses_wrong_id :
    configWf { resetConfig with profile := { resetConfig.profile with id := .a128x296 } } = false := by decide
theorem test_memory_refuses_gap : Memory.wf 3 [(0, 0#8), (2, 0#8)] = false := by decide
theorem test_memory_refuses_order : Memory.wf 2 [(1, 0#8), (0, 0#8)] = false := by decide

/-! ### Words written out bit by bit (R71, R77, R83, L2.2, L2.3) -/

theorem test_decode_setpx : decode 0b0001_1_000_000000000010_000000000011 = .ok (.setpx 3 2 .black) := by decide
theorem test_decode_setpx_signed :
    decode 0b0001_1_000_111111111011_111111111011 = .ok (.setpx (-5) (-5) .black) := by decide
theorem test_decode_fill : decode 0b0010_0_000000000000000000000000000 = .ok (.fill .white) := by decide
theorem test_decode_len : decode 0b0011_0000000000000000000000000000 = .ok .len := by decide
theorem test_decode_rdbyte : decode 0b0100_000000000000_0001001110000111 = .ok (.rdbyte 4999) := by decide
theorem test_decode_cmd : decode 0b0101_00000000000000000000_00010010 = .ok (.cmd 0x12) := by decide
theorem test_decode_data : decode 0b0110_00000000000000000000_10100101 = .ok (.data 0xA5) := by decide
theorem test_decode_wait : decode 0b0111_000000000000_0000001111101000 = .ok (.wait 1000) := by decide
theorem test_decode_setup : decode 0b1000_0000000000000000000000000000 = .ok .setup := by decide
theorem test_decode_display : decode 0b1001_0000000000000000000000000000 = .ok .display := by decide
theorem test_decode_status : decode 0b1010_0000000000000000000000000000 = .ok .status := by decide
/-- L2.3: the illegal words. -/
theorem test_decode_illegal :
    decode 0x00000000 = .error .unassignedOpcode ∧ decode 0xB0000000 = .error .unassignedOpcode
      ∧ decode 0xF0000000 = .error .unassignedOpcode ∧ decode 0x11000000 = .error .reservedBitSet
      ∧ decode 0x30000001 = .error .reservedBitSet ∧ decode 0x50000100 = .error .reservedBitSet
      ∧ decode 0x70010000 = .error .reservedBitSet := by decide
/-- One reserved bit of each other format (R71). -/
theorem test_decode_reserved :
    decode 0x14000000 = .error .reservedBitSet ∧ decode 0x20000001 = .error .reservedBitSet
      ∧ decode 0x24000000 = .error .reservedBitSet ∧ decode 0x48000000 = .error .reservedBitSet
      ∧ decode 0x68000000 = .error .reservedBitSet ∧ decode 0x88000000 = .error .reservedBitSet
      ∧ decode 0x90000001 = .error .reservedBitSet ∧ decode 0xA0000100 = .error .reservedBitSet := by decide
/-- R83 and L2.2, in the other direction. -/
theorem test_encode :
    encode (.setpx (-1) 0 .white) = 0x10000FFF ∧ encode (.setpx 199 199 .white) = 0x100C70C7
      ∧ encode (.fill .black) = 0x28000000 ∧ encode (.rdbyte 4999) = 0x40001387
      ∧ encode (.data 0xFF) = 0x600000FF ∧ encode (.wait 1000) = 0x700003E8 := by decide
theorem test_asm_text : asmText (.setpx (-1) 0 .white) = "SETPX -1, 0, WHITE" := by decide

/-! ### Operand forms -/

/-- L2.1, the rows of A_200x200 and A_128x250. -/
theorem test_decode_pixel :
    decodePixel (profileOf .a200x200 [] [] [] []) 3 2 = some (50, 4)
      ∧ decodePixel (profileOf .a200x200 [] [] [] []) 0 1 = some (25, 7)
      ∧ decodePixel (profileOf .a128x250 [] [] [] []) 9 1 = some (17, 6) := by decide
/-- L2.1, the out-of-bounds rows. -/
theorem test_decode_pixel_outside :
    decodePixel (profileOf .a200x200 [] [] [] []) 200 0 = none
      ∧ decodePixel (profileOf .a200x200 [] [] [] []) (-1) 0 = none
      ∧ decodePixel (profileOf .a200x200 [] [] [] []) 0 200 = none := by decide
/-- L2.8. -/
theorem test_expand_byte :
    expandByte 0x3 0xB0 = [0x30, 0x33, 0x00, 0x00] ∧ expandByte 0x3 0xA5 = [0x30, 0x30, 0x03, 0x03]
      ∧ expandByte 0x3 0x4F = [0x03, 0x00, 0x33, 0x33] := by decide
/-- L2.7, the row of A_128x296. -/
theorem test_window_ends :
    xWindowEnd (profileOf .a128x296 [] [] [] []) = 0x0F#8
      ∧ yWindowEnd (profileOf .a128x296 [] [] [] []) = 0x0127#16 := by decide

/-! ### Single requests -/

/-- L2.2: black clears bit 4 of a white byte, and does it again without toggling. -/
theorem test_setpx_black :
    nextHas (fun t => t.fb.read 2 == some 0xEF) (exec (.setpx 3 1 .black) (ready (tinyConfig .a true) []))
      = true := by decide
/-- L2.2: white sets it, and the neighbour bytes stay. -/
theorem test_setpx_white :
    nextHas (fun t => t.fb == [(0, 0xFF), (1, 0x00), (2, 0xFF), (3, 0xB0)] && t.response == some 0)
      (exec (.setpx 3 1 .white) (ready (tinyConfig .a true) [])) = true := by decide
/-- L2.2: FILL BLACK. -/
theorem test_fill_black :
    nextHas (fun t => t.fb.bytes == [0, 0, 0, 0] && t.response == some 0)
      (exec (.fill .black) (fresh (tinyConfig .b false) [])) = true := by decide
/-- R102: 16 by 2 pixels are four bytes. -/
theorem test_len :
    nextHas (fun t => t.response == some 0x00000004) (exec .len (fresh (tinyConfig .b false) [])) = true := by
  decide
/-- R103: byte 3 reads, byte 4 is out of range. -/
theorem test_rdbyte :
    nextHas (fun t => t.response == some 0x000000B0) (exec (.rdbyte 3) (fresh (tinyConfig .b true) []))
      && nextHas (fun t => t.response == some 0x30000000) (exec (.rdbyte 4) (fresh (tinyConfig .b true) []))
      = true := by decide
/-- L2.4: the bits of CMD 0x12, framed. -/
theorem test_cmd :
    nextHas (fun t => t.trace == [.cmd 0x12] && t.wire == [.dc false, .csN false, .bit false, .bit false,
        .bit false, .bit true, .bit false, .bit false, .bit true, .bit false, .csN true])
      (exec (.cmd 0x12) (fresh (tinyConfig .a true) [])) = true := by decide
/-- L2.4: the bits of DATA 0xA5, framed, with `dc` at the other level. -/
theorem test_data :
    nextHas (fun t => t.trace == [.data 0xA5] && t.wire == [.dc true, .csN false, .bit true, .bit false,
        .bit true, .bit false, .bit false, .bit true, .bit false, .bit true, .csN true])
      (exec (.data 0xA5) (fresh (tinyConfig .a true) [])) = true := by decide
/-- L2.5: T = 15, always busy: false at 20 after two samples, with the timeout event; `status` stays. -/
theorem test_wait_times_out :
    nextHas (fun t => t.response == some 0 && t.now == 20 && t.status == .nominal
        && t.trace == [.sample 0 true, .sample 10 true, .busyTimeout])
      (exec (.wait 15) (ready (tinyConfig .a true) [true, true])) = true := by decide
/-- L2.5: busy while the offset is below 20: true at 20, after three samples. -/
theorem test_wait_succeeds :
    nextHas (fun t => t.response == some 1 && t.now == 20 && t.samples == 3)
      (exec (.wait 1000) (ready (tinyConfig .a true) [true, true, false])) = true := by decide
/-- L2.5: at the same draws, the order SAMPLE_FIRST takes one sample more. -/
theorem test_gate_sample_first :
    nextHas (fun t => t.response == some 0 && t.now == 10 && t.samples == 2)
      (exec (.wait 9) (ready { tinyConfig .a true with gateOrder := .sampleFirst } [true, true])) = true := by
  decide
/-- P1, request 1: the reset pulse at 0 and 200, done at 400; the script here is one pair. -/
theorem test_setup :
    nextHas (fun t => t.trace == [.rst false, .rst true, .cmd 0x01, .data 0xAA] && t.now == 400
        && t.phase == .idle && t.rstN && t.response == some 0)
      (exec .setup (fresh (tinyConfig .a true) [])) = true := by decide
/-- L2.3: a second SETUP. -/
theorem test_setup_twice :
    nextHas (fun t => t.response == some 0x20000000 && t.trace == [])
      (exec .setup (ready (tinyConfig .a true) [])) = true := by decide
/-- R167, R172, L2.6: at counter 2 no table; the counter wraps to 0; 17 + 4 + 1 transactions, two samples. -/
theorem test_display_a :
    nextHas (fun t => t.trace == [.sample 0 false,
          .cmd 0x44, .data 0x00, .data 0x01, .cmd 0x45, .data 0x00, .data 0x00, .data 0x01, .data 0x00,
          .cmd 0x4E, .data 0x00, .cmd 0x4F, .data 0x00, .data 0x00, .sample 0 false,
          .cmd 0x24, .data 0xFF, .data 0x00, .data 0xEF, .data 0xB0,
          .cmd 0x22, .data 0xC4, .cmd 0x20, .cmd 0xFF] && t.modeCounter == 0 && t.response == some 1)
      (exec .display { ready (tinyConfig .a true) [false, false] with modeCounter := 2 }) = true := by decide
/-- P3: both planes of the 7.5" strategy, each byte expanded to four. -/
theorem test_display_b75 :
    nextHas (fun t => t.trace == .cmd 0x10 :: [.data 0x33, .data 0x33, .data 0x33, .data 0x33,
          .data 0x00, .data 0x00, .data 0x00, .data 0x00, .data 0x33, .data 0x30, .data 0x33, .data 0x33,
          .data 0x30, .data 0x33, .data 0x00, .data 0x00]
        ++ .cmd 0x13 :: [.data 0x33, .data 0x33, .data 0x33, .data 0x33,
          .data 0x00, .data 0x00, .data 0x00, .data 0x00, .data 0x33, .data 0x30, .data 0x33, .data 0x33,
          .data 0x30, .data 0x33, .data 0x00, .data 0x00] ++ [.cmd 0x12] && t.modeCounter == 0)
      (exec .display (ready (tinyConfig .b75 false) [])) = true := by decide
/-- L2.3: DISPLAY before SETUP. -/
theorem test_display_before_setup :
    nextHas (fun t => t.response == some 0x20000000) (exec .display (fresh (tinyConfig .a true) [])) = true := by
  decide
/-- R180: STATUS after an abort answers 1 and does not clear the flag. -/
theorem test_status :
    nextHas (fun t => t.response == some 1 && t.statusOut)
      (exec .status { ready (tinyConfig .a true) [] with status := .degraded }) = true := by decide
/-- P4, request 3: an illegal word at the port. -/
theorem test_step_illegal :
    nextHas (fun t => t.response == some 0x10000000 && t.trace == [])
      (step ((fresh (tinyConfig .b true) []).withFetchWord 32 0x11000000)) = true := by decide

/-! ### Witnesses: states and operands that meet the hypotheses of each obligation together -/

theorem exists_next {p : State → Bool} {r : Result} (h : nextHas p r = true) :
    ∃ t, r = .next t ∧ p t = true := by
  cases r with
  | next t => exact ⟨t, rfl, h⟩
  | fault e => cases h
  | refused e => cases h

/-- `n` busy samples are listed, then those of `l`. -/
theorem upcoming_busy (c : Config) (n : Nat) (l : List Level) (j : Nat) (h : j < n) :
    (ready c (List.replicate n true ++ l)).upcomingBusy j = true := by
  simp [State.upcomingBusy, ready, fresh, List.getD_eq_getElem?_getD, List.getElem?_append, h]

theorem upcoming_next (c : Config) (n : Nat) (v : Level) (l : List Level) :
    (ready c (List.replicate n true ++ v :: l)).upcomingBusy n = v := by
  simp [State.upcomingBusy, ready, fresh, List.getD_eq_getElem?_getD]

/-- One not-busy sample is listed, then `n` busy ones. -/
theorem upcoming_busy_after_one (c : Config) (n j : Nat) (h : j < n) :
    (ready c (false :: List.replicate n true)).upcomingBusy (0 + 1 + j) = true := by
  simp [State.upcomingBusy, ready, fresh, List.getD_eq_getElem?_getD, Nat.add_comm 1 j, h]

theorem witness_DecodeOfEncodeIsTheRequest : Instr.wf (.setpx (-2048) 2047 .black) = true := by decide
theorem witness_EncodeOfDecodeIsTheWord : decode 0x100C70C7 = .ok (.setpx 199 199 .white) := by decide
theorem witness_EveryWordMatchesItsRowOrIsIllegal :
    decode 0xA0000000 = .ok .status ∧ decode 0xB0000000 = .error .unassignedOpcode := by decide
theorem witness_OperandsAreTheWordsFields :
    decode 0x18800FFF = .ok (.setpx (-1) (-2048) .black) ∧ decode 0x28000000 = .ok (.fill .black)
      ∧ decode 0x4000FFFF = .ok (.rdbyte 65535) ∧ decode 0x7000FFFF = .ok (.wait 65535)
      ∧ decode 0x500000FF = .ok (.cmd 0xFF) ∧ decode 0x60000000 = .ok (.data 0) := by decide

/-- A ready engine with the word `w` at its port. -/
def asked (w : Word) : State := { ready (tinyConfig .a false) [] with requests := [⟨7, w⟩] }

theorem witness_StepRunsTheDecodedRequest :
    (asked 0x90000000).portReady = true ∧ (asked 0x90000000).requests = ⟨7, 0x90000000⟩ :: []
      ∧ decode 0x90000000 = .ok .display ∧ (asked 0xB0000000).portReady = true
      ∧ (asked 0xB0000000).requests = ⟨7, 0xB0000000⟩ :: []
      ∧ decode 0xB0000000 = .error .unassignedOpcode := by decide
theorem witness_IllegalWordIsAnsweredAndHasNoEffect :
    (fresh (tinyConfig .a true) []).portReady = true ∧ decode 0x30000001 = .error .reservedBitSet := by decide
theorem witness_PlacedWordRunsNext :
    (fresh (tinyConfig .b true) []).portReady = true ∧ Instr.wf (.rdbyte 65535) = true := by decide

/-- An engine inside a WAIT of 10 units, its sample at 0 taken. -/
def waiting : State :=
  { ready (tinyConfig .a true) [false] with
    phase := .waiting, seqStep := some .waitPoll, gateLimit := 10, gateReturn := .idle, now := 10 }

theorem witness_BusyPortTakesNoRequest :
    waiting.portReady = false ∧ ∃ t, step waiting = .next t ∧ (t.phase == .idle && t.response == some 1) = true :=
  ⟨by decide, exists_next (by decide)⟩
/-- A DISPLAY held before its second gate, of strategy A, and at its last sub-step, of strategy B. -/
theorem witness_DisplayResumesFromEverySubStep :
    displaySteps (tinyConfig .a false) = [.a1, .a1Poll, .a2, .a3] ++ .a4 :: [.a4Poll, .a5, .a6, .a7]
      ∧ (runPart [.a1, .a1Poll, .a2, .a3]
          ((ready (tinyConfig .a false) []).beginSequence .refreshing)).isSome = true
      ∧ displaySteps (tinyConfig .b true) = [.b1, .b1Poll, .b2, .b3, .b4] ++ .b5 :: []
      ∧ (runPart [.b1, .b1Poll, .b2, .b3, .b4]
          ((ready (tinyConfig .b true) [false]).beginSequence .refreshing)).isSome = true := by decide
theorem witness_EveryRequestCompletesWithAResponse :
    Inv (asked 0x40000004) ∧ ∃ t, step (asked 0x40000004) = .next t
      ∧ (t.response == some 0x30000000#32) = true :=
  ⟨⟨tinyProfile_wf .a, tinyMemory_wf .a, rfl, rfl, (ready_inv .a false []).counter,
    (fun e => by cases e), .inl rfl, ⟨rfl, rfl, rfl⟩, rfl, le_refl _, rfl⟩, exists_next (by decide)⟩

/-- Both clauses at the corners of the panel. -/
theorem witness_PixelDecoderFollowsTheFormula :
    decodePixel (tinyProfile .a) 0 0 = some (0, 7) ∧ decodePixel (tinyProfile .a) 15 1 = some (3, 0)
      ∧ decodePixel (tinyProfile .a) 16 1 = none ∧ decodePixel (tinyProfile .a) 15 2 = none
      ∧ decodePixel (tinyProfile .a) (-1) 0 = none ∧ decodePixel (tinyProfile .a) 0 (-1) = none := by decide
theorem witness_PixelDecoderIsABijection :
    (tinyProfile .b).wf = true ∧ decodePixel (tinyProfile .b) 15 1 = some (3, 0)
      ∧ 3 < byteLength (tinyProfile .b) := by decide
theorem witness_SetpxPaintsExactlyOneBit :
    (tinyProfile .a).wf = true ∧ (ready (tinyConfig .a true) []).fbWf
      ∧ decodePixel (tinyProfile .a) 8 0 = some (1, 7) :=
  ⟨by decide, (ready_inv .a true []).framebuffer, by decide⟩
theorem witness_OutOfBoundsSetpxChangesNothing :
    ¬((0 : Int) ≤ 16 ∧ (16 : Int) < (tinyProfile .a).width ∧ (0 : Int) ≤ 0
      ∧ (0 : Int) < (tinyProfile .a).height) := by decide
theorem witness_LenAnswersTheByteCount : (ready (tinyConfig .b75 true) []).cfg.profile.wf = true :=
  tinyProfile_wf .b75
/-- Both clauses, on either side of L = 4. -/
theorem witness_RdbyteAnswersTheByteOrRangeError :
    (fresh (tinyConfig .a true) []).fbWf ∧ (tinyProfile .a).width * (tinyProfile .a).height / 8 ≤ 4
      ∧ 3 < (tinyProfile .a).width * (tinyProfile .a).height / 8 :=
  ⟨(fresh_inv .a true []).framebuffer, by decide, by decide⟩
/-- Of two paints of (3, 0) and one of its neighbour the last of (3, 0) stands; (0, 1) is as before. -/
theorem witness_PixelKeepsItsLastColour :
    Inv (fresh (tinyConfig .a true) []) ∧ inBounds (tinyProfile .a) 3 0 = true
      ∧ (∃ t, runInstrs [.setpx 3 0 .white, .setpx 3 0 .black, .setpx 2 0 .white] (fresh (tinyConfig .a true) [])
          = .next t ∧ (colored (tinyProfile .a) t.fb 3 0 == some true) = true)
      ∧ ∃ t, runInstrs [.setpx 0 0 .black] (fresh (tinyConfig .a true) []) = .next t
          ∧ (colored (tinyProfile .a) t.fb 0 1 == some false) = true :=
  ⟨fresh_inv .a true [], by decide, exists_next (by decide), exists_next (by decide)⟩
theorem witness_SetpxAtDifferentPixelsCommute :
    (tinyProfile .b).wf = true ∧ (ready (tinyConfig .b true) []).fbWf ∧ inBounds (tinyProfile .b) 0 0 = true
      ∧ inBounds (tinyProfile .b) 7 0 = true ∧ ((0, 0) : Int × Int) ≠ (7, 0) :=
  ⟨by decide, (ready_inv .b true []).framebuffer, by decide, by decide, by decide⟩
theorem witness_OnlySetpxAndFillWriteTheFramebuffer :
    ∃ t, exec .display (ready (tinyConfig .b75 false) []) = .next t ∧ (t.phase == .idle) = true :=
  exists_next (by decide)

/-- A gate of 10 units, not busy at its first sample and at its last, sample 1. -/
theorem witness_GateSucceedsAtTheFirstNotBusySample :
    (tinyConfig .a true).hasBusy = true ∧ 0 ≤ lastSample .timeoutFirst 10
      ∧ firstNotBusy (ready (tinyConfig .a true) [false]) 0 0 ∧ 1 ≤ lastSample .timeoutFirst 10
      ∧ firstNotBusy (ready (tinyConfig .a true) [true, false]) 0 1 := by
  refine ⟨rfl, by decide, ⟨fun j _ h => by omega, le_refl _, rfl⟩, by decide, ⟨fun j _ h => ?_, by omega, rfl⟩⟩
  obtain rfl : j = 0 := by omega
  rfl
/-- Gates of 0, 9 and 10 units that see only busy samples (L2.5). -/
theorem witness_GateTimesOutWhenEverySampleIsBusy :
    (tinyConfig .a true).hasBusy = true
      ∧ (∀ j, j ≤ lastSample .timeoutFirst 0 → (ready (tinyConfig .a true) [true]).upcomingBusy j = true)
      ∧ (∀ j, j ≤ lastSample .timeoutFirst 9 → (ready (tinyConfig .a true) [true]).upcomingBusy j = true)
      ∧ ∀ j, j ≤ lastSample .timeoutFirst 10 →
        (ready (tinyConfig .a true) [true, true]).upcomingBusy j = true := by
  refine ⟨rfl, fun j h => ?_, fun j h => ?_, fun j h => ?_⟩ <;> simp [lastSample] at h
  · subst h; rfl
  · subst h; rfl
  · obtain rfl | rfl : j = 0 ∨ j = 1 := by omega
    · rfl
    · rfl
theorem witness_GateWithoutBusyPinSucceedsAtOnce : (ready (tinyConfig .a false) []).cfg.hasBusy = false := rfl
/-- All three clauses, the second at the first and the last sample of T = 10, the third at T = 0. -/
theorem witness_WaitAnswersWhatItsGateSaw :
    (fresh (tinyConfig .b false) []).portReady = true ∧ (fresh (tinyConfig .b false) []).seqStep = none
      ∧ (tinyConfig .b false).hasBusy = false
      ∧ (ready (tinyConfig .a true) [true, false]).portReady = true
      ∧ (ready (tinyConfig .a true) [true, false]).seqStep = none
      ∧ firstNotBusy (ready (tinyConfig .a true) [true, false]) 0 1 ∧ 1 ≤ lastSample .timeoutFirst 10
      ∧ firstNotBusy (ready (tinyConfig .a true) [false]) 0 0
      ∧ ∀ j, j ≤ lastSample .timeoutFirst 0 → (ready (tinyConfig .a true) [true]).upcomingBusy j = true :=
  let h := witness_GateSucceedsAtTheFirstNotBusySample
  ⟨rfl, rfl, rfl, rfl, rfl, h.2.2.2.2, h.2.2.2.1, h.2.2.1, witness_GateTimesOutWhenEverySampleIsBusy.2.1⟩
theorem witness_SetupRunsPulseScriptAndLuts :
    Inv (fresh (tinyConfig .a true) []) ∧ (fresh (tinyConfig .a true) []).phase = .uninit :=
  ⟨fresh_inv .a true [], rfl⟩
theorem witness_ResetPulseHoldsEachLevelFor200 : (fresh (tinyConfig .a true) []).cfg.hasReset = true := rfl
theorem witness_OutOfSequenceRequestsAreRefused :
    (ready (tinyConfig .a true) []).phase ≠ .uninit ∧ (fresh (tinyConfig .a true) []).phase = .uninit :=
  ⟨by decide, rfl⟩

/-- Both gates see not busy at once; or the first at its last sample and the second at its last (R144). -/
theorem witness_DisplayAStreamsTheFrame :
    Inv (ready (tinyConfig .a true) [false, false])
      ∧ firstNotBusy (ready (tinyConfig .a true) [false, false]) 0 0
      ∧ firstNotBusy (ready (tinyConfig .a true) [false, false]) (0 + 1) 1
      ∧ 1 - (0 + 1) ≤ lastSample .timeoutFirst 1000 :=
  ⟨ready_inv .a true _, ⟨fun j _ h => by omega, le_refl _, rfl⟩, ⟨fun j h k => by omega, le_refl _, rfl⟩,
    by decide⟩
theorem witness_DisplayAStreamsTheFrame_at_the_last_sample :
    firstNotBusy (ready (tinyConfig .a true) (List.replicate 100 true ++ false :: [false])) 0 100
      ∧ 100 ≤ lastSample .timeoutFirst 1000
      ∧ firstNotBusy (ready (tinyConfig .a true) (List.replicate 100 true ++ false :: [false])) (100 + 1) 101
      ∧ 101 - (100 + 1) ≤ lastSample .timeoutFirst 1000 :=
  ⟨⟨fun j _ h => upcoming_busy _ _ _ j h, by omega, upcoming_next _ _ _ _⟩, by decide,
    ⟨fun j h k => by omega, le_refl _, by decide⟩, by decide⟩
theorem witness_DisplayAWithoutBusyPinStreamsTheFrame :
    Inv (ready (tinyConfig .a false) []) ∧ (ready (tinyConfig .a false) []).phase = .idle
      ∧ (tinyConfig .a false).profile.strategy = .a ∧ (tinyConfig .a false).hasBusy = false :=
  ⟨ready_inv .a false [], rfl, rfl, rfl⟩
theorem witness_DisplayAbortsAtItsFirstGate :
    (ready (tinyConfig .b true) (List.replicate 101 true ++ [])).phase = .idle
      ∧ ∀ j, j ≤ lastSample .timeoutFirst 1000 →
        (ready (tinyConfig .b true) (List.replicate 101 true ++ [])).upcomingBusy j = true :=
  ⟨rfl, fun j h => upcoming_busy _ _ _ j (by simp [lastSample] at h; omega)⟩
/-- P2, request 3: not busy at the first gate's first sample, busy at all of the second's. -/
theorem witness_DisplayAAbortsAtItsSecondGate :
    Inv (ready (tinyConfig .a true) (false :: List.replicate 101 true))
      ∧ firstNotBusy (ready (tinyConfig .a true) (false :: List.replicate 101 true)) 0 0
      ∧ ∀ j, j ≤ lastSample .timeoutFirst 1000 →
        (ready (tinyConfig .a true) (false :: List.replicate 101 true)).upcomingBusy (0 + 1 + j) = true := by
  refine ⟨ready_inv .a true _, ⟨fun j _ h => by omega, le_refl _, rfl⟩, fun j h => ?_⟩
  exact upcoming_busy_after_one _ _ j (by simp [lastSample] at h; omega)
/-- Two DISPLAYs that pass step 1 with a busy pin: the first completes, the second aborts at its second gate,
which 101 busy samples fill. -/
def cadenceRun : Nat → State
  | 0 =>
    { ready (tinyConfig .a true) (false :: false :: false :: List.replicate 101 true) with
      requests := List.replicate 2 { gap := 5, word := 0x90000000#32 } }
  | j + 1 =>
    match step (cadenceRun j) with
    | .next t => t
    | .fault _ => cadenceRun j
    | .refused _ => cadenceRun j

theorem witness_LutCadenceOverDisplaysThatPassStepOne :
    Inv (cadenceRun 0) ∧ (cadenceRun 0).phase = .idle ∧ (cadenceRun 0).cfg.profile.strategy = .a
      ∧ 2 ≤ (cadenceRun 0).cfg.fullUpdateEvery.toNat ∧ (cadenceRun 0).modeCounter = 0#32
      ∧ (∀ j, j < 2 → passesStepOne (cadenceRun j) ∧ step (cadenceRun j) = .next (cadenceRun (j + 1))
        ∧ ∃ r rs, (cadenceRun j).requests = r :: rs ∧ decode r.word = .ok .display) := by
  refine ⟨⟨tinyProfile_wf .a, tinyMemory_wf .a, rfl, rfl, (ready_inv .a true []).counter,
    (fun e => by cases e), .inl rfl, ⟨rfl, rfl, rfl⟩, rfl, le_refl _, rfl⟩, rfl, rfl, by decide, rfl, ?_⟩
  intro j h
  obtain rfl | rfl : j = 0 ∨ j = 1 := by omega
  · exact ⟨.inr ⟨0, by decide, fun j _ h => by omega, le_refl _, rfl⟩, rfl, _, _, rfl, by decide⟩
  · exact ⟨.inr ⟨0, by decide, fun j _ h => by omega, le_refl _, rfl⟩, rfl, _, _, rfl, by decide⟩
theorem witness_LutCadenceOverDisplaysThatPassStepOne_outcomes :
    (cadenceRun 1).status = .nominal ∧ (cadenceRun 2).status = .degraded ∧ (cadenceRun 2).modeCounter = 2#32 := by
  decide +kernel
theorem witness_LutCadenceHasPeriodN :
    ∃ s : State, Inv s ∧ s.phase = .idle ∧ s.cfg.profile.strategy = .a ∧ s.cfg.hasBusy = false
      ∧ 2 ≤ s.cfg.fullUpdateEvery.toNat ∧ s.modeCounter = 0#32
      ∧ s.requests = List.replicate 4 { gap := 0, word := 0x90000000#32 } :=
  ⟨{ ready (tinyConfig .a false) [] with requests := List.replicate 4 { gap := 0, word := 0x90000000#32 } },
    ⟨tinyProfile_wf .a, tinyMemory_wf .a, rfl, rfl, (ready_inv .a false []).counter,
      (fun e => by cases e), .inl rfl, ⟨rfl, rfl, rfl⟩, rfl, le_refl _, rfl⟩, rfl, rfl, rfl, by decide, rfl, rfl⟩
/-- Both clauses: N = 3 and N = 1. -/
theorem witness_CounterAdvancesUnlessAbortedAtStepOne :
    Inv (ready (tinyConfig .a false) [])
      ∧ (∃ t, exec .display (ready (tinyConfig .a false) []) = .next t ∧ (t.modeCounter == 1#32) = true)
      ∧ 2 ≤ (tinyConfig .a false).fullUpdateEvery.toNat
      ∧ (∃ t, exec .display (ready { tinyConfig .a false with fullUpdateEvery := 1#32 } []) = .next t
          ∧ (t.modeCounter == 0#32) = true) :=
  ⟨ready_inv .a false [], exists_next (by decide), by decide, exists_next (by decide)⟩
theorem witness_DisplayBStreamsItsPlanes :
    Inv (ready (tinyConfig .b75 true) [true, false]) ∧ (tinyProfile .b75).strategy ≠ .a
      ∧ firstNotBusy (ready (tinyConfig .b75 true) [true, false]) 0 1 ∧ 1 ≤ lastSample .timeoutFirst 1000 := by
  refine ⟨ready_inv .b75 true _, by decide, ⟨fun j _ h => ?_, by omega, rfl⟩, by decide⟩
  obtain rfl : j = 0 := by omega
  rfl
theorem witness_DisplayBWithoutBusyPinStreamsItsPlanes :
    Inv (ready (tinyConfig .b false) []) ∧ (tinyProfile .b).strategy ≠ .a
      ∧ (tinyConfig .b false).hasBusy = false :=
  ⟨ready_inv .b false [], by decide, rfl⟩
theorem witness_FamilyBIgnoresTheCadence : (ready (tinyConfig .b true) []).cfg.profile.strategy ≠ .a := by decide
theorem witness_CompletedDisplayTransactionCounts :
    Inv (ready (tinyConfig .a false) []) ∧ ∃ t, exec .display (ready (tinyConfig .a false) []) = .next t
      ∧ (t.response == some 1#32 && (t.trace.filter isBusEvent).length == 17 + 4 + 1 + 31) = true :=
  ⟨ready_inv .a false [], exists_next (by decide)⟩

theorem witness_OnlyDisplayWritesStatusAndCounter :
    ∃ t, exec (.wait 0) (ready (tinyConfig .a true) [true]) = .next t ∧ (t.status == .nominal) = true :=
  exists_next (by decide)
theorem witness_DisplaySetsStatusByItsOutcome :
    (ready (tinyConfig .b true) [false]).phase = .idle
      ∧ ∃ t, exec .display (ready (tinyConfig .b true) [false]) = .next t ∧ (t.response == some 1#32) = true :=
  ⟨rfl, exists_next (by decide)⟩
/-- A built engine: the reset state is one. -/
theorem construct_reset :
    construct resetConfig (Memory.drawn (byteLength resetConfig.profile)) = .next State.reset := by
  have h : configWf resetConfig = true := test_config_admits_table_row
  simp [construct, h, Memory.wf_drawn, State.reset]
/-- Each clause: an ill-formed profile, a well-formed one that is no id's record, and an id's record. -/
theorem witness_ConstructionAdmitsExactlyWellFormedProfiles :
    { tinyConfig .a true with profile := { tinyProfile .a with width := 12 } }.profile.wf = false
      ∧ (¬∃ id script luts full part, (tinyConfig .a true).profile = profileOf id script luts full part)
      ∧ resetConfig.profile = profileOf .a128x250 [] [] (openBytes 100 30) (openBytes 200 30)
      ∧ resetConfig.profile.wf = true ∧ 0 < resetConfig.timeUnit
      ∧ (Memory.drawn (byteLength resetConfig.profile)).map Prod.fst
        = List.range (byteLength resetConfig.profile) := by
  refine ⟨by decide, ?_, rfl, by decide, by decide, (Memory.wf_iff _ _).1 (Memory.wf_drawn _)⟩
  rintro ⟨id, _, _, _, _, h⟩
  have : (16 : Nat) = profileWidth id := congrArg Profile.width h
  cases id <;> simp [profileWidth] at this
theorem witness_ExpandByteDoublesEachBit : 0x33#8 ∈ expandByte 0x3#4 0xFF#8 := by decide
theorem witness_ResetValuesAreTheSpecs : ∃ c m s, construct c m = .next s ∧ c.hasReset = true :=
  ⟨_, _, _, construct_reset, rfl⟩
theorem witness_InvariantHoldsAtReset : ∃ c m s, construct c m = .next s := ⟨_, _, _, construct_reset⟩
theorem witness_EveryStepKeepsTheInvariant :
    Inv (fresh (tinyConfig .a true) []) ∧ ∃ t, step (fresh (tinyConfig .a true) []) = .next t
      ∧ (t.now == 1) = true :=
  ⟨fresh_inv .a true [], exists_next (by decide)⟩
theorem witness_ConfigurationStandsAndHistoryGrows :
    ∃ t, step waiting = .next t ∧ (t.trace.length == 1) = true := exists_next (by decide)
theorem witness_RequestDurationsAreBounded :
    ∃ t, exec (.wait 10) (ready (tinyConfig .a true) [true, true]) = .next t ∧ (t.now == 20) = true :=
  exists_next (by decide)
theorem witness_PhaseMovesOnlyAsStated :
    (fresh (tinyConfig .a true) []).portReady = true
      ∧ ∃ t, exec .setup (fresh (tinyConfig .a true) []) = .next t ∧ (t.phase == .idle) = true :=
  ⟨rfl, exists_next (by decide)⟩
theorem witness_OnlySetupDrivesReset :
    ∃ t, exec .setup (fresh (tinyConfig .b true) []) = .next t ∧ t.rstN = true := exists_next (by decide)
/-- Both clauses; the first also at a SETUP refused and a DISPLAY aborted at step 1, of strategy B. -/
theorem witness_OnlyTransactionsMoveTheBus :
    (∃ t, exec (.wait 0) (ready (tinyConfig .a true) [false]) = .next t
        ∧ (t.trace.filter isBusEvent == [] && t.wire == []) = true)
      ∧ (∃ t, exec .setup (ready (tinyConfig .a true) []) = .next t
        ∧ (t.trace.filter isBusEvent == [] && t.wire == []) = true)
      ∧ ∃ t, exec .display (ready (tinyConfig .b true) (List.replicate 101 true)) = .next t
        ∧ (t.trace.filter isBusEvent == [] && t.response == some 0) = true :=
  ⟨exists_next (by decide), exists_next (by decide), exists_next (by decide +kernel)⟩
theorem witness_ProfileTableIsTheSpecs :
    (List.replicate 30 0xF1#8).length = (List.replicate 30 0x0E#8).length
      ∧ 30 ≤ (List.replicate 30 0xF1#8).length ∧ (List.replicate 44 0xF1#8).length ≤ 44 := by decide

end Sys2Proof.Tests
end

section
/-! PROOFS. What is fixed at construction and what only grows (spec/00_scope.md R8, spec/10_state.md R36, R37):
every request, sequence and step leads to a state that extends the one it began in. -/

namespace Sys2Proof.Machine

/-- `t` extends `s`: the same configuration, no earlier time, and the histories of `s` continued. -/
structure Extends (s t : State) : Prop where
  cfg : t.cfg = s.cfg
  now : s.now ≤ t.now
  trace : s.trace <+: t.trace
  wire : s.wire <+: t.wire

theorem Extends.trans {s t u : State} (h : Extends s t) (k : Extends t u) : Extends s u :=
  ⟨k.cfg.trans h.cfg, h.now.trans k.now, h.trace.trans k.trace, h.wire.trans k.wire⟩

/-- Where both histories stand, only the configuration and the time are in question. -/
theorem Extends.of_same_history {s t : State} (hcfg : t.cfg = s.cfg) (hnow : s.now ≤ t.now)
    (htrace : t.trace = s.trace) (hwire : t.wire = s.wire) : Extends s t :=
  ⟨hcfg, hnow, ⟨[], by simp [htrace]⟩, ⟨[], by simp [hwire]⟩⟩

theorem Extends.delay (s : State) (n : Nat) : Extends s (s.delay n) :=
  .of_same_history rfl (Nat.le_add_right _ _) rfl rfl

theorem Extends.accept (s : State) (r : Request) (rs : List Request) : Extends s (s.accept r rs) :=
  .of_same_history rfl (Nat.le_add_right _ _) rfl rfl

theorem Extends.respond (s : State) (c : ResultCode) (v : BitVec 16) : Extends s (s.respond c v) :=
  .of_same_history rfl (le_refl _) rfl rfl

theorem Extends.memWrite (s : State) (i : Nat) (v : Byte) : Extends s (s.memWrite i v) :=
  .of_same_history rfl (le_refl _) rfl rfl

theorem Extends.memFill (s : State) (v : Byte) : Extends s (s.memFill v) :=
  .of_same_history rfl (le_refl _) rfl rfl

theorem Extends.beginSequence (s : State) (p : Phase) : Extends s (s.beginSequence p) :=
  .of_same_history rfl (le_refl _) rfl rfl

theorem Extends.beginWait (s : State) (n : Nat) : Extends s (s.beginWait n) :=
  .of_same_history rfl (le_refl _) rfl rfl

theorem Extends.endSequence (s : State) (ok : Bool) : Extends s (s.endSequence ok) := by
  obtain ⟨hcfg, -, -, hnow, htrace, hwire, -, -⟩ := s.endSequence_frame ok
  exact .of_same_history hcfg hnow.ge htrace hwire

/-- What sub-steps do, they do by extending the state. -/
theorem SeqFrame.toExtends {s t : State} (h : SeqFrame s t) : Extends s t := by
  obtain ⟨es, htrace, hwire⟩ := h.history
  exact ⟨h.cfg, h.now, ⟨es, htrace.symm⟩, ⟨_, hwire.symm⟩⟩

theorem Extends.tx (s : State) (x : Tx) : Extends s (s.tx x) :=
  s.tx_eq_send x ▸ (SeqFrame.send s [x]).toExtends

theorem Extends.runSequence (ks : List SeqStep) (s : State) : Extends s (runSequence ks s) := by
  obtain ⟨t, ok, hframe, hend⟩ := runSequence_frame ks s
  exact hend ▸ hframe.toExtends.trans (.endSequence t ok)

/-- The rest of a sequence, from whichever sub-step is in progress. -/
theorem resumeSequence_extends {s t : State} (h : resumeSequence s = .next t) : Extends s t := by
  unfold resumeSequence at h
  split at h
  · cases h; exact .runSequence _ _
  · cases h

theorem execSetpx_extends {x y : Int} {c : Colour} {s t : State} (h : execSetpx x y c s = .next t) :
    Extends s t := by
  unfold execSetpx at h
  split at h
  · cases h; exact .respond _ _ _
  · split at h
    · cases h
    · cases h; exact (Extends.memWrite _ _ _).trans (.respond _ _ _)

theorem execRdbyte_extends {i : Nat} {s t : State} (h : execRdbyte i s = .next t) : Extends s t := by
  unfold execRdbyte at h
  split at h
  · cases h; exact .respond _ _ _
  · split at h
    · cases h
    · cases h; exact .respond _ _ _

theorem execSetup_extends {s t : State} (h : execSetup s = .next t) : Extends s t := by
  unfold execSetup at h
  split at h
  · cases h; exact (Extends.beginSequence _ _).trans (.runSequence _ _)
  · cases h; exact .respond _ _ _

theorem execDisplay_extends {s t : State} (h : execDisplay s = .next t) : Extends s t := by
  unfold execDisplay at h
  split at h
  · cases h; exact .respond _ _ _
  · cases h; exact (Extends.beginSequence _ _).trans (.runSequence _ _)

/-- Every request extends the state it is executed in. -/
theorem exec_extends {i : Instr} {s t : State} (h : exec i s = .next t) : Extends s t := by
  cases i with
  | setpx x y c => exact execSetpx_extends h
  | fill c => cases h; exact (Extends.memFill _ _).trans (.respond _ _ _)
  | len => cases h; exact .respond _ _ _
  | rdbyte n => exact execRdbyte_extends h
  | cmd b => cases h; exact (Extends.tx _ _).trans (.respond _ _ _)
  | data b => cases h; exact (Extends.tx _ _).trans (.respond _ _ _)
  | wait n => cases h; exact (Extends.beginWait _ _).trans (.runSequence _ _)
  | setup => exact execSetup_extends h
  | display => exact execDisplay_extends h
  | status => cases h; exact .respond _ _ _

/-- Every step extends the state it begins in, a resumed sequence included. -/
theorem step_extends {s t : State} (h : step s = .next t) : Extends s t := by
  obtain ⟨-, -, hwait⟩ | ⟨r, rs, i, -, -, -, hexec⟩ | ⟨r, rs, e, -, -, -, hillegal⟩ | ⟨-, hresume⟩ :=
    step_cases s
  · cases hwait.symm.trans h
    exact .delay s 1
  · exact (Extends.accept s r rs).trans (exec_extends (hexec.symm.trans h))
  · cases hillegal.symm.trans h
    exact (Extends.accept s r rs).trans (.respond _ _ _)
  · exact resumeSequence_extends (hresume.symm.trans h)

/-- Settles O51: it holds, since every step extends the state it begins in. -/
theorem configurationStandsAndHistoryGrows : Obligations.ConfigurationStandsAndHistoryGrows := by
  unfold Obligations.ConfigurationStandsAndHistoryGrows
  intro s t h
  obtain ⟨hcfg, hnow, htrace, hwire⟩ := step_extends h
  exact ⟨hcfg, hnow, htrace, hwire⟩

end Sys2Proof.Machine
end

section
/-! PROOFS. The profile table and construction (spec/10_state.md R27, R29, R30, spec/00_scope.md R8, R10): what
well-formedness asks, condition by condition, and which records the six ids select. -/

namespace Sys2Proof.Machine

theorem lutLengthOk_iff (n : Nat) : lutLengthOk n = true ↔ 30 ≤ n ∧ n ≤ 44 := by
  simp [lutLengthOk]

theorem Profile.wfA_iff (p : Profile) :
    p.wfA = true ↔ p.width ≤ 2048 ∧ (30 ≤ p.lutFull.length ∧ p.lutFull.length ≤ 44)
      ∧ p.lutFull.length = p.lutPartial.length := by
  simp [Profile.wfA, lutLengthOk_iff, and_assoc]

/-- Well-formedness, as the conditions of R29. -/
theorem Profile.wf_iff (p : Profile) :
    p.wf = true ↔
      p.width % 8 = 0 ∧ 8 ≤ p.width ∧ 1 ≤ p.height ∧ p.height ≤ 65536 ∧ p.width * p.height / 8 ≤ 65535
        ∧ (∀ l ∈ p.setupLuts, 30 ≤ l.data.length ∧ l.data.length ≤ 44)
        ∧ (p.strategy = .a → p.wfA = true) := by
  simp only [Profile.wf, Bool.and_eq_true, Bool.or_eq_true, decide_eq_true_eq, List.all_eq_true,
    lutLengthOk_iff, and_assoc, ne_eq, imp_iff_not_or]

/-- The geometry of every row of R27 meets R29's conditions on it. -/
theorem profileTable_geometry (id : ProfileId) :
    profileWidth id % 8 = 0 ∧ 8 ≤ profileWidth id ∧ profileWidth id ≤ 2048 ∧ 1 ≤ profileHeight id
      ∧ profileHeight id ≤ 65536 ∧ profileWidth id * profileHeight id / 8 ≤ 30720 := by
  cases id <;> decide

/-- With waveform tables of an admitted length, every id's record is well-formed (R29, R30). -/
theorem profileOf_wf (id : ProfileId) (script : List Command) {full part : List Byte}
    (heq : full.length = part.length) (hmin : 30 ≤ full.length) (hmax : full.length ≤ 44) :
    (profileOf id script [] full part).wf = true := by
  obtain ⟨hmod, hw, hw', hh, hh', hlen⟩ := profileTable_geometry id
  refine (Profile.wf_iff _).2 ⟨hmod, hw, hh, hh', hlen.trans (by decide), ?_, fun _ => ?_⟩
  · exact fun l hl => absurd hl List.not_mem_nil
  · exact (Profile.wfA_iff _).2 ⟨hw', ⟨hmin, hmax⟩, heq⟩

/-- Settles O46: it holds; the table's rows are computed, and every row's geometry is admitted. -/
theorem profileTableIsTheSpecs : Obligations.ProfileTableIsTheSpecs := by
  unfold Obligations.ProfileTableIsTheSpecs
  refine ⟨by decide, by decide, ?_, ?_⟩
  · exact fun id script _ _ heq hmin hmax => profileOf_wf id script heq hmin hmax
  · intro id script luts full part
    obtain ⟨-, -, -, -, -, hlen⟩ := profileTable_geometry id
    exact ⟨rfl, hlen⟩

/-- The records with a table row are those that the six ids select (R27, R30). -/
theorem isTableRow_iff (p : Profile) :
    isTableRow p = true ↔ ∃ id script luts full part, p = profileOf id script luts full part := by
  constructor
  · intro h
    simp only [isTableRow, Bool.and_eq_true, decide_eq_true_eq] at h
    obtain ⟨⟨hstrategy, hwidth⟩, hheight⟩ := h
    refine ⟨p.id, p.initScript, p.setupLuts, p.lutFull, p.lutPartial, ?_⟩
    simp only [profileOf, ← hstrategy, ← hwidth, ← hheight]
  · rintro ⟨id, script, luts, full, part, rfl⟩
    simp [isTableRow, profileOf]

/-- A configuration that is not admitted is refused at construction (R201). -/
theorem construct_refused {c : Config} (m : Memory) (h : configWf c = false) :
    construct c m = .refused .illFormedProfile := by
  simp [construct, h]

/-- An admitted configuration and one byte for each index build an engine (R220). -/
theorem construct_built {c : Config} {m : Memory} (h : configWf c = true)
    (hm : m.wf (byteLength c.profile) = true) : construct c m = .next (State.resetWith c m) := by
  simp [construct, h, hm]

/-- Settles O47: it holds; construction admits exactly what `configWf` and `Memory.wf` do. -/
theorem constructionAdmitsExactlyWellFormedProfiles :
    Obligations.ConstructionAdmitsExactlyWellFormedProfiles := by
  unfold Obligations.ConstructionAdmitsExactlyWellFormedProfiles
  refine ⟨fun p => ?_, fun c m hwf => ?_, fun c m hrow => ?_, ?_⟩
  · rw [Profile.wf_iff, Profile.wfA_iff]
    tauto
  · exact construct_refused m (by simp [configWf, hwf])
  · have hrow : isTableRow c.profile = false := by rwa [← isTableRow_iff, Bool.not_eq_true] at hrow
    exact construct_refused m (by simp [configWf, hrow])
  · intro c m id script luts full part hprofile hwf htime hm
    have hrow : isTableRow c.profile = true :=
      (isTableRow_iff _).2 ⟨id, script, luts, full, part, hprofile⟩
    exact construct_built (by simp [configWf, hwf, hrow, htime]) ((Memory.wf_iff _ _).2 hm)

end Sys2Proof.Machine
end

section
/-! PROOFS. What each request can write (spec/10_state.md R23, R24, R26, R34): one lemma for what a completed
request has done, and from it who writes the framebuffer, the status flag, the counter and `rst_n`. -/

namespace Sys2Proof.Machine

@[simp] theorem State.endSequence_fb (s : State) (ok : Bool) : (s.endSequence ok).fb = s.fb := by
  obtain ⟨-, hfb, -⟩ := s.endSequence_frame ok
  exact hfb

@[simp] theorem State.endSequence_modeCounter (s : State) (ok : Bool) :
    (s.endSequence ok).modeCounter = s.modeCounter := by
  obtain ⟨-, -, -, -, -, -, hcounter, -⟩ := s.endSequence_frame ok
  exact hcounter

@[simp] theorem State.endSequence_rstN (s : State) (ok : Bool) : (s.endSequence ok).rstN = s.rstN := by
  obtain ⟨-, -, -, -, -, -, -, hrst⟩ := s.endSequence_frame ok
  exact hrst

/-- Only DISPLAY's end writes the status flag, by the abort (R26, R207). -/
theorem State.endSequence_status {s : State} (h : s.phase ≠ .refreshing) (ok : Bool) :
    (s.endSequence ok).status = s.status := by
  obtain ⟨-, hend⟩ | ⟨hphase, -⟩ | ⟨hphase, -⟩ | ⟨-, hend⟩ | ⟨-, hend⟩ := s.endSequence_cases ok
  · rw [hend]; rfl
  · exact absurd hphase h
  · exact absurd hphase h
  · rw [hend]; rfl
  · rw [hend]

/-- What a request that completes has done to the state `s` it was executed in. -/
inductive Effect (s : State) : Instr → State → Prop where
  /-- it was answered, and no more: LEN, RDBYTE, STATUS, and SETPX out of bounds (R102, R103, R106, R180) -/
  | answered (i : Instr) (c : ResultCode) (v : BitVec 16) (notSequence : i ≠ .setup ∧ i ≠ .display) :
      Effect s i (s.respond c v)
  /-- SETUP came a second time (R203) -/
  | refusedSetup (setUp : s.phase ≠ .uninit) : Effect s .setup (s.reject .errSeq)
  /-- DISPLAY came before SETUP (R203) -/
  | refusedDisplay (fresh : s.phase = .uninit) : Effect s .display (s.reject .errSeq)
  /-- SETPX wrote one byte (R100) -/
  | painted (x y : Int) (c : Colour) (n : Nat) (v : Byte) :
      Effect s (.setpx x y c) ((s.memWrite n v).respond .ok 0#16)
  /-- FILL wrote every byte (R101) -/
  | filled (c : Colour) : Effect s (.fill c) ((s.memFill (fillByte c)).respond .ok 0#16)
  /-- CMD sent its byte (R125) -/
  | sentCmd (b : Byte) : Effect s (.cmd b) ((s.tx (cmdTx b)).respond .ok 0#16)
  /-- DATA sent its byte (R126) -/
  | sentData (b : Byte) : Effect s (.data b) ((s.tx (dataTx b)).respond .ok 0#16)
  /-- WAIT polled, and ended by what its gate saw (R147) -/
  | waited (n : Nat) (u : State) (ok : Bool) (poll : PollFrame ((s.beginWait n).atStep .waitPoll) u) :
      Effect s (.wait n) (u.endSequence ok)
  /-- SETUP ran its sub-steps (R161) -/
  | ranSetup (u : State) (fresh : s.phase = .uninit) (frame : SeqFrame (s.beginSequence .setup) u)
      (status : u.status = s.status) (counter : u.modeCounter = s.modeCounter)
      (rst : u.rstN = if s.cfg.hasReset then true else s.rstN) :
      Effect s .setup (u.complete .idle 0#16)
  /-- DISPLAY ran its sub-steps, to the end or to an abort (R165) -/
  | ranDisplay (setUp : s.phase ≠ .uninit) :
      Effect s .display (runSequence (displaySteps s.cfg) (s.beginSequence .refreshing))

theorem execSetpx_effect {x y : Int} {c : Colour} {s t : State} (h : execSetpx x y c s = .next t) :
    Effect s (.setpx x y c) t := by
  unfold execSetpx at h
  split at h
  · cases h; exact .answered _ _ _ ⟨nofun, nofun⟩
  · split at h
    · cases h
    · cases h; exact .painted x y c _ _

theorem execRdbyte_effect {n : Nat} {s t : State} (h : execRdbyte n s = .next t) :
    Effect s (.rdbyte n) t := by
  unfold execRdbyte at h
  split at h
  · cases h; exact .answered _ _ _ ⟨nofun, nofun⟩
  · split at h
    · cases h
    · cases h; exact .answered _ _ _ ⟨nofun, nofun⟩

theorem execWait_effect {n : Nat} {s t : State} (h : execWait n s = .next t) : Effect s (.wait n) t := by
  obtain ⟨u, ok, hpoll, hrun⟩ := runSequence_waitSteps s n
  cases h
  exact hrun ▸ .waited n u ok hpoll

theorem execSetup_effect {s t : State} (h : execSetup s = .next t) : Effect s .setup t := by
  unfold execSetup at h
  split at h
  · obtain ⟨u, hframe, hstatus, hcounter, hrst, hrun⟩ := runSequence_setupSteps s
    cases h
    exact hrun ▸ .ranSetup u ‹_› hframe hstatus hcounter hrst
  · cases h; exact .refusedSetup ‹_›

theorem execDisplay_effect {s t : State} (h : execDisplay s = .next t) : Effect s .display t := by
  unfold execDisplay at h
  split at h
  · cases h; exact .refusedDisplay ‹_›
  · cases h; exact .ranDisplay ‹_›

/-- Every request that completes has had one of these effects. -/
theorem exec_effect {i : Instr} {s t : State} (h : exec i s = .next t) : Effect s i t := by
  cases i with
  | setpx x y c => exact execSetpx_effect h
  | fill c => cases h; exact .filled c
  | len => cases h; exact .answered _ _ _ ⟨nofun, nofun⟩
  | rdbyte n => exact execRdbyte_effect h
  | cmd b => cases h; exact .sentCmd b
  | data b => cases h; exact .sentData b
  | wait n => exact execWait_effect h
  | setup => exact execSetup_effect h
  | display => exact execDisplay_effect h
  | status => cases h; exact .answered _ _ _ ⟨nofun, nofun⟩

/-- A sequence writes no framebuffer byte (R208). -/
theorem runSequence_fb (ks : List SeqStep) (s : State) : (runSequence ks s).fb = s.fb := by
  obtain ⟨t, ok, hframe, hrun⟩ := runSequence_frame ks s
  rw [hrun, State.endSequence_fb, hframe.fb]

theorem Effect.fb {s t : State} {i : Instr} (h : Effect s i t) (hsetpx : ∀ x y c, i ≠ .setpx x y c)
    (hfill : ∀ c, i ≠ .fill c) : t.fb = s.fb := by
  cases h with
  | answered => rfl
  | refusedSetup => rfl
  | refusedDisplay => rfl
  | painted x y c => exact absurd rfl (hsetpx x y c)
  | filled c => exact absurd rfl (hfill c)
  | sentCmd b => simp [State.tx_eq_send]
  | sentData b => simp [State.tx_eq_send]
  | waited n u ok hpoll => exact (u.endSequence_fb ok).trans hpoll.seqFrame.fb
  | ranSetup u _ hframe => exact hframe.fb
  | ranDisplay => exact runSequence_fb _ _

/-- Settles O21: it holds, by the effects of the requests. -/
theorem onlySetpxAndFillWriteTheFramebuffer : Obligations.OnlySetpxAndFillWriteTheFramebuffer := by
  unfold Obligations.OnlySetpxAndFillWriteTheFramebuffer
  intro s t i h hsetpx hfill
  exact (exec_effect h).fb hsetpx hfill

theorem Effect.status_modeCounter {s t : State} {i : Instr} (h : Effect s i t) (hi : i ≠ .display) :
    t.status = s.status ∧ t.modeCounter = s.modeCounter := by
  cases h with
  | answered => exact ⟨rfl, rfl⟩
  | refusedSetup => exact ⟨rfl, rfl⟩
  | refusedDisplay => exact ⟨rfl, rfl⟩
  | painted => exact ⟨rfl, rfl⟩
  | filled => exact ⟨rfl, rfl⟩
  | sentCmd b => simp [State.tx_eq_send]
  | sentData b => simp [State.tx_eq_send]
  | waited n u ok hpoll =>
    obtain ⟨-, hcounter, hstatus⟩ := hpoll.flags
    have hphase : u.phase = .waiting := hpoll.seqFrame.phase
    have hend : (u.endSequence ok).status = u.status := State.endSequence_status (by simp [hphase]) ok
    exact ⟨hend.trans hstatus, (u.endSequence_modeCounter ok).trans hcounter⟩
  | ranSetup u _ _ hstatus hcounter => exact ⟨hstatus, hcounter⟩
  | ranDisplay => exact absurd rfl hi

/-- Settles O44: it holds; WAIT's gate and SETUP's sub-steps write neither. -/
theorem onlyDisplayWritesStatusAndCounter : Obligations.OnlyDisplayWritesStatusAndCounter := by
  unfold Obligations.OnlyDisplayWritesStatusAndCounter
  intro s t i h hi
  exact (exec_effect h).status_modeCounter hi

/-- Only the two halves of the reset pulse drive `rst_n` (R162). -/
theorem runStep_rstN {k : SeqStep} (hlow : k ≠ .pulseLow) (hhigh : k ≠ .pulseHigh) (s : State) :
    (runStep k s).2.rstN = s.rstN := by
  have hpoll : s.pollGate.2.rstN = s.rstN := s.pollGate_frame.flags.1
  cases k with
  | pulseLow => exact absurd rfl hlow
  | pulseHigh => exact absurd rfl hhigh
  | waitPoll => exact hpoll
  | a1Poll => exact hpoll
  | a4Poll => exact hpoll
  | b1Poll => exact hpoll
  | _ => rfl

/-- DISPLAY has no reset pulse among its sub-steps (R165, R175). -/
theorem displaySteps_no_pulse (c : Config) :
    SeqStep.pulseLow ∉ displaySteps c ∧ SeqStep.pulseHigh ∉ displaySteps c := by
  unfold displaySteps
  cases c.profile.strategy <;> cases c.b75Planes <;> decide

theorem runSequence_displaySteps_rstN (c : Config) (s : State) :
    (runSequence (displaySteps c) s).rstN = s.rstN := by
  obtain ⟨hlow, hhigh⟩ := displaySteps_no_pulse c
  obtain ⟨t, ok, hrst, hrun⟩ := runSequence_cases (fun s t => t.rstN = s.rstN) (fun _ => rfl)
    (displaySteps c) (fun k hk s t h => (runStep_rstN (ne_of_mem_of_not_mem hk hlow)
      (ne_of_mem_of_not_mem hk hhigh) (t.atStep k)).trans h) s
  rw [hrun, State.endSequence_rstN, hrst]

theorem Effect.rstN {s t : State} {i : Instr} (h : Effect s i t) :
    t.rstN = s.rstN ∨ (i = .setup ∧ s.cfg.hasReset = true ∧ t.rstN = true) := by
  cases h with
  | answered => exact .inl rfl
  | refusedSetup => exact .inl rfl
  | refusedDisplay => exact .inl rfl
  | painted => exact .inl rfl
  | filled => exact .inl rfl
  | sentCmd b => simp [State.tx_eq_send]
  | sentData b => simp [State.tx_eq_send]
  | waited n u ok hpoll => exact .inl ((u.endSequence_rstN ok).trans hpoll.flags.1)
  | ranSetup u _ _ _ _ hrst =>
    cases hpin : s.cfg.hasReset with
    | true => exact .inr ⟨rfl, rfl, hrst.trans (if_pos hpin)⟩
    | false => exact .inl (hrst.trans (if_neg (by simp [hpin])))
  | ranDisplay => exact .inl (runSequence_displaySteps_rstN _ _)

/-- Settles O54: it holds; only SETUP runs the reset pulse, and the pulse ends with RST released. -/
theorem onlySetupDrivesReset : Obligations.OnlySetupDrivesReset := by
  unfold Obligations.OnlySetupDrivesReset
  intro s t i h
  exact (exec_effect h).rstN

/-- STATUS's answer, as a whole response word (R78, R180). -/
theorem responseWord_statusValue (v : Status) :
    responseWord .ok (statusValue v) = if v = .degraded then 1#32 else 0#32 := by
  cases v <;> decide

/-- Settles O43: it holds, by the two values of the flag. -/
theorem statusAnswersTheDegradedFlag : Obligations.StatusAnswersTheDegradedFlag := by
  unfold Obligations.StatusAnswersTheDegradedFlag
  intro s
  refine ⟨?_, by simp [State.statusOut]⟩
  rw [← responseWord_statusValue]
  rfl

end Sys2Proof.Machine
end

section
/-! PROOFS. DISPLAY held at a sub-step (spec/10_state.md R21, log 14, 15): the sub-steps already run and the rest of
the sequence compose, and a step of the held engine is that rest. -/

namespace Sys2Proof.Machine

open Sys2Proof.Claims (runPart)

theorem runPart_cons {k : SeqStep} {ks : List SeqStep} {s u : State}
    (h : runPart (k :: ks) s = some u) :
    ∃ t, runStep k (s.atStep k) = (true, t) ∧ runPart ks t = some u := by
  rcases hk : runStep k (s.atStep k) with ⟨ok, t⟩
  cases ok with
  | true => exact ⟨t, rfl, by simpa [runPart, hk] using h⟩
  | false => simp [runPart, hk] at h

/-- The part of a sequence that has run, and then the rest, are the whole of it. -/
theorem runSequence_append {pre : List SeqStep} (post : List SeqStep) {s t : State}
    (h : runPart pre s = some t) : runSequence (pre ++ post) s = runSequence post t := by
  induction pre generalizing s with
  | nil => cases h; rfl
  | cons k pre ih =>
    obtain ⟨u, hk, hrest⟩ := runPart_cons h
    rw [List.cons_append, runSequence_goes_on hk, ih hrest]

/-- Sub-steps that have run kept to the frame. -/
theorem runPart_frame {ks : List SeqStep} {s t : State} (h : runPart ks s = some t) : SeqFrame s t := by
  induction ks generalizing s with
  | nil => cases h; exact .refl _
  | cons k ks ih =>
    obtain ⟨u, hk, hrest⟩ := runPart_cons h
    have hstep : SeqFrame (s.atStep k) u := by simpa [hk] using runStep_frame k (s.atStep k)
    exact ((SeqFrame.atStep s k).trans hstep).trans (ih hrest)

/-- A sequence writes its own index first, so the index it begins with is of no account. -/
theorem runSequence_cons_atStep (k : SeqStep) (ks : List SeqStep) (s : State) :
    runSequence (k :: ks) (s.atStep k) = runSequence (k :: ks) s := rfl

theorem stepsFrom_append {k : SeqStep} {pre : List SeqStep} (post : List SeqStep) (h : k ∉ pre) :
    stepsFrom k (pre ++ k :: post) = some (k :: post) := by
  induction pre with
  | nil => simp [stepsFrom]
  | cons j pre ih =>
    have hj : j ≠ k := (List.ne_of_not_mem_cons h).symm
    rw [List.cons_append, stepsFrom, if_neg hj, ih (List.not_mem_of_not_mem_cons h)]

/-- No sub-step occurs twice in DISPLAY, so the index says where the sequence stands (R21). -/
theorem displaySteps_nodup (c : Config) : (displaySteps c).Nodup := by
  unfold displaySteps
  cases c.profile.strategy <;> cases c.b75Planes <;> decide

/-- A step of an engine held at a sub-step of its phase's sequence runs the rest of that sequence (R21, R87). -/
theorem step_atStep {s : State} {k : SeqStep} {pre post : List SeqStep} (hbusy : s.portReady = false)
    (hsteps : stepsOfPhase s.cfg s.phase = pre ++ k :: post) (hk : k ∉ pre) :
    step (s.atStep k) = .next (runSequence (k :: post) s) := by
  have hrest : (s.atStep k).remainingSteps = some (k :: post) := by
    simp [State.remainingSteps, hsteps, stepsFrom_append post hk]
  have hbusy' : (s.atStep k).portReady = false := hbusy
  simp only [step, hbusy', resumeSequence, hrest, runSequence_cons_atStep, Bool.false_eq_true, if_false]

/-- Settles O10: it holds; what has run kept the phase and the configuration, which with the index fix the
rest. -/
theorem displayResumesFromEverySubStep : Obligations.DisplayResumesFromEverySubStep := by
  unfold Obligations.DisplayResumesFromEverySubStep
  intro s t pre post k hready hsteps hpart
  have hframe := runPart_frame hpart
  have hcfg : t.cfg = s.cfg := hframe.cfg
  have hphase : t.phase = .refreshing := hframe.phase
  have hk : k ∉ pre := fun hmem =>
    (List.nodup_append.1 (hsteps ▸ displaySteps_nodup s.cfg)).2.2 k hmem k (by simp) rfl
  calc step (t.atStep k)
      = .next (runSequence (k :: post) t) :=
        step_atStep (by simp [State.portReady, hphase]) (by rw [hcfg, hphase]; exact hsteps) hk
    _ = .next (runSequence (displaySteps s.cfg) (s.beginSequence .refreshing)) := by
        rw [hsteps, runSequence_append _ hpart]
    _ = exec .display s := (if_neg hready).symm

end Sys2Proof.Machine
end

section
/-! PROOFS. The update cadence N (spec/10_state.md R25, spec/43_refresh.md R175): only the LUT mode dispatch of
strategy A reads it, so every other sub-step, and with them a DISPLAY of family B, commutes with changing it. -/

namespace Sys2Proof.Machine

open Sys2Proof.Claims (mapNext)

/-- The same engine built with the cadence `n`. -/
def State.withCadence (s : State) (n : BitVec 32) : State :=
  { s with cfg := { s.cfg with fullUpdateEvery := n } }

/-- The poll loop does not read N (R143). -/
theorem pollLoop_withCadence (o : GateOrder) (fuel : Nat) (s : State) (n : BitVec 32) :
    pollLoop o fuel (s.withCadence n) = ((pollLoop o fuel s).1, (pollLoop o fuel s).2.withCadence n) := by
  induction fuel generalizing s with
  | zero => rfl
  | succ fuel ih =>
    have hsample : (s.withCadence n).sampleBusy = s.sampleBusy.withCadence n := rfl
    have hexpired (u : State) : (u.withCadence n).gateExpired = u.gateExpired := rfl
    have hbusy (u : State) : (u.withCadence n).busy = u.busy := rfl
    have hdelay (u : State) (d : Nat) : (u.withCadence n).delay d = (u.delay d).withCadence n := rfl
    cases o with
    | timeoutFirst =>
      simp only [pollLoop, hsample, hexpired, hbusy, hdelay, ih]
      split
      · rfl
      · split <;> rfl
    | sampleFirst =>
      simp only [pollLoop, hsample, hexpired, hbusy, hdelay, ih]
      split
      · rfl
      · split <;> rfl

theorem State.pollGate_withCadence (s : State) (n : BitVec 32) :
    (s.withCadence n).pollGate = (s.pollGate.1, s.pollGate.2.withCadence n) := by
  have hpin : (s.withCadence n).cfg.hasBusy = s.cfg.hasBusy := rfl
  unfold State.pollGate
  rw [hpin]
  split
  · exact pollLoop_withCadence _ _ s n
  · rfl

/-- Every sub-step but the LUT mode dispatch does the same for every N (R25, R167). -/
theorem runStep_withCadence {k : SeqStep} (hk : k ≠ .a2) (s : State) (n : BitVec 32) :
    runStep k (s.withCadence n) = ((runStep k s).1, (runStep k s).2.withCadence n) := by
  cases k with
  | a2 => exact absurd rfl hk
  | waitPoll => exact s.pollGate_withCadence n
  | a1Poll => exact s.pollGate_withCadence n
  | a4Poll => exact s.pollGate_withCadence n
  | b1Poll => exact s.pollGate_withCadence n
  | _ => rfl

theorem State.endSequence_withCadence (s : State) (ok : Bool) (n : BitVec 32) :
    (s.withCadence n).endSequence ok = (s.endSequence ok).withCadence n := by
  have hphase : (s.withCadence n).phase = s.phase := rfl
  unfold State.endSequence
  rw [hphase]
  cases s.phase with
  | refreshing => cases ok <;> rfl
  | _ => rfl

/-- A sequence without the LUT mode dispatch does the same for every N. -/
theorem runSequence_withCadence {ks : List SeqStep} (hks : .a2 ∉ ks) (s : State) (n : BitVec 32) :
    runSequence ks (s.withCadence n) = (runSequence ks s).withCadence n := by
  induction ks generalizing s with
  | nil => exact s.endSequence_withCadence true n
  | cons k ks ih =>
    have hk : k ≠ .a2 := (List.ne_of_not_mem_cons hks).symm
    have hrest : .a2 ∉ ks := List.not_mem_of_not_mem_cons hks
    have hstep : runStep k ((s.withCadence n).atStep k) = _ := runStep_withCadence hk (s.atStep k) n
    rcases hr : runStep k (s.atStep k) with ⟨ok, t⟩
    rw [hr] at hstep
    cases ok with
    | true => rw [runSequence_goes_on hstep, runSequence_goes_on hr, ih hrest]
    | false => rw [runSequence_ends hstep, runSequence_ends hr, State.endSequence_withCadence]

/-- Strategies B and B75 have no LUT mode dispatch (R175). -/
theorem displaySteps_no_dispatch {c : Config} (h : c.profile.strategy ≠ .a) : .a2 ∉ displaySteps c := by
  have hB (planes : Planes) : .a2 ∉ displayStepsB planes := by cases planes <;> decide
  unfold displaySteps
  cases hstrategy : c.profile.strategy with
  | a => exact absurd hstrategy h
  | b => exact hB _
  | b75 => exact hB _

theorem execDisplay_withCadence {s : State} (h : s.cfg.profile.strategy ≠ .a) (n : BitVec 32) :
    execDisplay (s.withCadence n) = mapNext (·.withCadence n) (execDisplay s) := by
  by_cases hphase : s.phase = .uninit
  · have hphase' : (s.withCadence n).phase = .uninit := hphase
    simp only [execDisplay, if_pos hphase, if_pos hphase', mapNext]
    rfl
  · have hphase' : (s.withCadence n).phase ≠ .uninit := hphase
    have hrun := runSequence_withCadence (displaySteps_no_dispatch h) (s.beginSequence .refreshing) n
    simp only [execDisplay, if_neg hphase, if_neg hphase', mapNext]
    exact congrArg _ hrun

/-- Settles O40: it holds, since no sub-step of family B is the LUT mode dispatch. -/
theorem familyBIgnoresTheCadence : Obligations.FamilyBIgnoresTheCadence := by
  unfold Obligations.FamilyBIgnoresTheCadence
  intro s n h
  exact execDisplay_withCadence h n

end Sys2Proof.Machine
end

section
/-! PROOFS. The pixel address decoder (spec/20_memory.md R53 to R58): with rows of whole
bytes it numbers the framebuffer's bits row by row, and division by the width gives the pixel of a bit back. -/

namespace Sys2Proof.Machine

theorem inBounds_iff (p : Profile) (x y : Int) :
    inBounds p x y = true ↔ 0 ≤ x ∧ x < p.width ∧ 0 ≤ y ∧ y < p.height := by
  simp only [inBounds, decide_eq_true_eq]
  tauto

theorem decodePixel_outOfBounds {p : Profile} {x y : Int}
    (h : ¬(0 ≤ x ∧ x < p.width ∧ 0 ≤ y ∧ y < p.height)) : decodePixel p x y = none :=
  if_neg (mt (inBounds_iff p x y).1 h)

theorem decodePixel_inBounds {p : Profile} {x y : Nat} (hx : x < p.width) (hy : y < p.height) :
    decodePixel p x y = some ((x + y * p.width) / 8, bitPos x) :=
  if_pos ((inBounds_iff p x y).2 (by omega))

/-- Settles O12: it holds; in bounds both coordinates are natural numbers. -/
theorem pixelDecoderFollowsTheFormula : Obligations.PixelDecoderFollowsTheFormula := by
  unfold Obligations.PixelDecoderFollowsTheFormula
  refine fun p x y => ⟨decodePixel_outOfBounds, fun ⟨hx0, hx, hy0, hy⟩ => ?_⟩
  lift x to Nat using hx0
  lift y to Nat using hy0
  refine ⟨_, _, decodePixel_inBounds (by omega) (by omega), by push_cast; rfl, ?_⟩
  simp only [bitPos, Int.toNat_natCast]
  omega

/-- The pixels with an address, and the address of each. -/
theorem decodePixel_eq_some_iff (p : Profile) (x y : Int) (i : Nat) (k : Fin 8) :
    decodePixel p x y = some (i, k) ↔ ∃ m n : Nat, x = m ∧ y = n ∧ m < p.width ∧ n < p.height
      ∧ (m + n * p.width) / 8 = i ∧ 7 - m % 8 = k.val := by
  constructor
  · intro h
    by_cases hb : 0 ≤ x ∧ x < p.width ∧ 0 ≤ y ∧ y < p.height
    · obtain ⟨hx0, hx, hy0, hy⟩ := hb
      lift x to Nat using hx0
      lift y to Nat using hy0
      rw [decodePixel_inBounds (by omega) (by omega)] at h
      cases h
      exact ⟨x, y, rfl, rfl, by omega, by omega, rfl, rfl⟩
    · rw [decodePixel_outOfBounds hb] at h
      cases h
  · rintro ⟨m, n, rfl, rfl, hm, hn, rfl, hk⟩
    rw [decodePixel_inBounds hm hn, show bitPos m = k from Fin.ext hk]

/-- Where each row is whole bytes, a pixel's byte and bit are its place in the frame's row-by-row numbering (R54,
R55, R58). -/
theorem byte_and_bit_iff_place {w : Nat} (hw : w % 8 = 0) (m n i : Nat) (k : Fin 8) :
    (m + n * w) / 8 = i ∧ 7 - m % 8 = k.val ↔ m + n * w = 8 * i + (7 - k.val) := by
  have hrow : (n * w) % 8 = 0 := by simp [Nat.mul_mod, hw]
  omega

/-- The place of an in-bounds pixel is a bit of the frame. -/
theorem place_lt {w h m n : Nat} (hm : m < w) (hn : n < h) : m + n * w < w * h :=
  calc m + n * w < w + n * w := by omega
    _ = (n + 1) * w := by ring
    _ ≤ h * w := Nat.mul_le_mul_right w hn
    _ = w * h := Nat.mul_comm h w

/-- Settles O13: it holds; the pixel of bit `k` of byte `i` is the column and row of place `8*i + (7 - k)`. -/
theorem pixelDecoderIsABijection : Obligations.PixelDecoderIsABijection := by
  unfold Obligations.PixelDecoderIsABijection
  intro p hwf
  obtain ⟨hmod, hmin, -⟩ := (Profile.wf_iff p).1 hwf
  have hplace (x y : Int) (i : Nat) (k : Fin 8) : decodePixel p x y = some (i, k) ↔
      ∃ m n : Nat, x = m ∧ y = n ∧ m < p.width ∧ n < p.height
        ∧ m + n * p.width = 8 * i + (7 - k.val) := by
    simp only [decodePixel_eq_some_iff, byte_and_bit_iff_place hmod]
  have hlen : 8 * byteLength p = p.width * p.height :=
    Nat.mul_div_cancel' ((Nat.dvd_of_mod_eq_zero hmod).mul_right _)
  refine ⟨fun x y i k h => ?_, fun i k hi => ?_⟩
  · obtain ⟨m, n, -, -, hm, hn, hj⟩ := (hplace x y i k).1 h
    have := place_lt hm hn
    omega
  · have hw : 0 < p.width := by omega
    have hcol : (8 * i + (7 - k.val)) % p.width < p.width := Nat.mod_lt _ hw
    have hrow : (8 * i + (7 - k.val)) / p.width < p.height := Nat.div_lt_of_lt_mul (by omega)
    refine ⟨_, _, (hplace _ _ i k).2 ⟨_, _, rfl, rfl, hcol, hrow, Nat.mod_add_div' _ _⟩, fun x' y' h => ?_⟩
    obtain ⟨m, n, rfl, rfl, hm, -, hj⟩ := (hplace x' y' i k).1 h
    obtain ⟨rfl, rfl⟩ := (Nat.div_mod_unique hw).2 ⟨Nat.mul_comm n _ ▸ hj, hm⟩
    exact ⟨rfl, rfl⟩

end Sys2Proof.Machine
end

section
/-! PROOFS. The invariant of an engine between two requests (spec/20_memory.md R64, R66, spec/41_channel.md R121,
R130, spec/43_refresh.md R181): the clauses of it that hold inside a sequence too, how a sequence's end gives the
others back, and that every request and step keeps it. -/

namespace Sys2Proof.Machine

/-- The clauses of `Inv` that hold also while a sequence runs. The others speak of the sequencer, or of RST, which
SETUP's pulse holds low. -/
structure SequenceInv (s : State) : Prop where
  profile : s.cfg.profile.wf = true
  framebuffer : s.fbWf
  counter : counterLegal s.cfg s.modeCounter
  returnPhase : s.gateReturn = .uninit ∨ s.gateReturn = .idle
  busIdle : s.csN = true ∧ s.sclk = s.cfg.bus.sclkIdle ∧ s.mosi = s.cfg.bus.mosiIdle
  gateBegan : s.gateStart ≤ s.now
  framing : s.wire = s.trace.flatMap (eventWire s.cfg)

theorem State.portReady_iff (s : State) : s.portReady = true ↔ s.phase = .uninit ∨ s.phase = .idle := by
  simp [State.portReady]

theorem Inv.sequenceInv {s : State} (h : Inv s) : SequenceInv s :=
  ⟨h.profile, h.framebuffer, h.counter, h.returnPhase, h.busIdle, h.gateBegan, h.framing⟩

theorem Inv.beginSequence {s : State} (h : Inv s) (p : Phase) : SequenceInv (s.beginSequence p) :=
  ⟨h.profile, h.framebuffer, h.counter, h.returnPhase, h.busIdle, h.gateBegan, h.framing⟩

theorem Inv.beginWait {s : State} (h : Inv s) (n : Nat) : SequenceInv (s.beginWait n) where
  profile := h.profile
  framebuffer := h.framebuffer
  counter := h.counter
  returnPhase := s.portReady_iff.1 h.ready
  busIdle := h.busIdle
  gateBegan := (SeqFrame.openGate { s with gateReturn := s.phase, phase := .waiting } n).gate h.gateBegan
  framing := h.framing

/-- Sub-steps keep these clauses, but for the counter, which the LUT mode dispatch writes. -/
theorem SeqFrame.sequenceInv {s t : State} (hframe : SeqFrame s t) (h : SequenceInv s)
    (hcounter : counterLegal t.cfg t.modeCounter) : SequenceInv t where
  profile := hframe.cfg ▸ h.profile
  framebuffer := by
    unfold State.fbWf
    rw [hframe.cfg, hframe.fb]
    exact h.framebuffer
  counter := hcounter
  returnPhase := hframe.gateReturn ▸ h.returnPhase
  busIdle := hframe.bus h.busIdle
  gateBegan := hframe.gate h.gateBegan
  framing := by
    obtain ⟨es, htrace, hwire⟩ := hframe.history
    rw [hwire, htrace, hframe.cfg, List.flatMap_append, h.framing]

/-- A sequence that completes into a phase between requests gives the whole invariant back. -/
theorem SequenceInv.complete {s : State} (h : SequenceInv s) {p : Phase} (v : BitVec 16)
    (hp : p = .uninit ∨ p = .idle) (hrst : s.rstN = true)
    (hfresh : p = .uninit → s.status = .nominal ∧ s.modeCounter = 0#32) : Inv (s.complete p v) :=
  ⟨h.profile, h.framebuffer, (State.portReady_iff _).2 hp, rfl, h.counter, hfresh, h.returnPhase, h.busIdle, hrst,
    h.gateBegan, h.framing⟩

/-- And so does the abort (R207). -/
theorem SequenceInv.abort {s : State} (h : SequenceInv s) (hrst : s.rstN = true) : Inv s.abort :=
  ⟨h.profile, h.framebuffer, rfl, rfl, h.counter, nofun, h.returnPhase, h.busIdle, hrst, h.gateBegan, h.framing⟩

/-! ### The mode counter stays legal -/

/-- Only the LUT mode dispatch writes the counter (R167). -/
theorem runStep_modeCounter {k : SeqStep} (hk : k ≠ .a2) (s : State) :
    (runStep k s).2.modeCounter = s.modeCounter := by
  have hpoll : s.pollGate.2.modeCounter = s.modeCounter := s.pollGate_frame.flags.2.1
  cases k with
  | a2 => exact absurd rfl hk
  | waitPoll => exact hpoll
  | a1Poll => exact hpoll
  | a4Poll => exact hpoll
  | b1Poll => exact hpoll
  | _ => rfl

theorem nextCounter_lt {n : BitVec 32} (hn : 2 ≤ n.toNat) (counter : BitVec 32) :
    (nextCounter n counter).toNat < n.toNat := by
  rw [nextCounter, BitVec.toNat_ofNat]
  exact (Nat.mod_le _ _).trans_lt (Nat.mod_lt _ (by omega))

/-- Strategy A's dispatch leaves the counter below `N`, or with switching off does not move it (R167, R181). -/
theorem counterLegal_dispatchCounter {c : Config} {counter : BitVec 32} (hA : c.profile.strategy = .a)
    (h : counterLegal c counter) : counterLegal c (dispatchCounter c counter) := by
  by_cases hN : 2 ≤ c.fullUpdateEvery.toNat
  · simpa [counterLegal, hA, hN, dispatchCounter, lutSwitching] using nextCounter_lt hN counter
  · simpa [dispatchCounter, lutSwitching, hN] using h

/-- From `s` to `t` an engine built with `c` keeps its configuration and a legal counter. -/
def KeepsCounterLegal (c : Config) (s t : State) : Prop :=
  s.cfg = c ∧ counterLegal c s.modeCounter → t.cfg = c ∧ counterLegal c t.modeCounter

/-- Each sub-step of DISPLAY keeps the counter legal: the dispatch is among them for strategy A only (R175). -/
theorem runStep_keepsCounterLegal {c : Config} {k : SeqStep} (hk : k ∈ displaySteps c) (s : State) :
    KeepsCounterLegal c s (runStep k (s.atStep k)).2 := by
  rintro ⟨rfl, hlegal⟩
  refine ⟨(runStep_frame k (s.atStep k)).cfg, ?_⟩
  by_cases hdispatch : k = .a2
  · subst hdispatch
    have hA : s.cfg.profile.strategy = .a := by
      by_contra hB
      exact displaySteps_no_dispatch hB hk
    exact counterLegal_dispatchCounter hA hlegal
  · rwa [runStep_modeCounter hdispatch]

theorem runSequence_displaySteps_counterLegal {s : State} (h : counterLegal s.cfg s.modeCounter) :
    counterLegal s.cfg (runSequence (displaySteps s.cfg) s).modeCounter := by
  obtain ⟨t, ok, hkeeps, hrun⟩ := runSequence_cases (KeepsCounterLegal s.cfg) (fun _ => id) (displaySteps s.cfg)
    (fun _ hk _ t hkeeps => runStep_keepsCounterLegal hk t ∘ hkeeps) s
  rw [hrun, State.endSequence_modeCounter]
  exact (hkeeps ⟨rfl, h⟩).2

/-! ### What keeps the invariant -/

theorem Inv.delay {s : State} (h : Inv s) (n : Nat) : Inv (s.delay n) :=
  ⟨h.profile, h.framebuffer, h.ready, h.noStep, h.counter, h.fresh, h.returnPhase, h.busIdle, h.resetReleased,
    h.gateBegan.trans (Nat.le_add_right _ _), h.framing⟩

/-- A framebuffer in canonical form may take the place of the one there is. -/
theorem Inv.withFb {s : State} (h : Inv s) {m : Memory} (hm : m.wf (byteLength s.cfg.profile) = true) :
    Inv { s with fb := m } :=
  ⟨h.profile, hm, h.ready, h.noStep, h.counter, h.fresh, h.returnPhase, h.busIdle, h.resetReleased, h.gateBegan,
    h.framing⟩

theorem Inv.memWrite {s : State} (h : Inv s) (i : Nat) (v : Byte) : Inv (s.memWrite i v) :=
  h.withFb ((Memory.wf_write _ _ i v).trans h.framebuffer)

theorem Inv.memFill {s : State} (h : Inv s) (v : Byte) : Inv (s.memFill v) :=
  h.withFb ((Memory.wf_fill _ _ v).trans h.framebuffer)

/-- A transaction ends with the bus idle and its line drives recorded under its event (R121, R130). -/
theorem Inv.tx {s : State} (h : Inv s) (x : Tx) : Inv (s.tx x) := by
  rw [State.tx_eq_send]
  have hseq := (SeqFrame.send s [x]).sequenceInv h.sequenceInv h.counter
  exact ⟨hseq.profile, hseq.framebuffer, h.ready, h.noStep, hseq.counter, h.fresh, hseq.returnPhase, hseq.busIdle,
    h.resetReleased, hseq.gateBegan, hseq.framing⟩

/-- WAIT goes back to the phase it came from, with `status` and `mode_counter` as they were (R147). -/
theorem Inv.waited {s : State} (h : Inv s) {n : Nat} {u : State} (ok : Bool)
    (hpoll : PollFrame ((s.beginWait n).atStep .waitPoll) u) : Inv (u.endSequence ok) := by
  obtain ⟨hrst, hcounter, hstatus⟩ := hpoll.flags
  have hframe : SeqFrame (s.beginWait n) u := (SeqFrame.atStep _ _).trans hpoll.seqFrame
  have hphase : u.phase = .waiting := hframe.phase
  have hreturn : u.gateReturn = s.phase := hframe.gateReturn
  have hend : u.endSequence ok = u.complete s.phase (boolValue ok) := by
    simp [State.endSequence, hphase, hreturn]
  have hseq : SequenceInv u := hframe.sequenceInv (h.beginWait n)
    (by rw [hframe.cfg, hcounter]; exact h.counter)
  rw [hend]
  refine hseq.complete _ (s.portReady_iff.1 h.ready) (hrst.trans h.resetReleased) fun hp => ?_
  rw [hstatus, hcounter]
  exact h.fresh hp

/-- SETUP ends in IDLE with RST released, whether it pulsed it or has no pin (R161, R162). -/
theorem Inv.ranSetup {s : State} (h : Inv s) {u : State} (hframe : SeqFrame (s.beginSequence .setup) u)
    (hcounter : u.modeCounter = s.modeCounter) (hrst : u.rstN = if s.cfg.hasReset then true else s.rstN) :
    Inv (u.complete .idle 0#16) := by
  have hseq : SequenceInv u := hframe.sequenceInv (h.beginSequence .setup)
    (by rw [hframe.cfg, hcounter]; exact h.counter)
  exact hseq.complete _ (.inr rfl) (by simp [hrst, h.resetReleased]) nofun

/-- DISPLAY ends in IDLE, completed or aborted (R165, R207). -/
theorem Inv.ranDisplay {s : State} (h : Inv s) :
    Inv (runSequence (displaySteps s.cfg) (s.beginSequence .refreshing)) := by
  have hrst := runSequence_displaySteps_rstN s.cfg (s.beginSequence .refreshing)
  have hcounter := runSequence_displaySteps_counterLegal (s := s.beginSequence .refreshing) h.counter
  obtain ⟨u, ok, hframe, hrun⟩ := runSequence_frame (displaySteps s.cfg) (s.beginSequence .refreshing)
  rw [State.beginSequence_cfg, hrun, State.endSequence_modeCounter] at hcounter
  rw [hrun, State.endSequence_rstN] at hrst
  have hseq : SequenceInv u := hframe.sequenceInv (h.beginSequence .refreshing) (hframe.cfg ▸ hcounter)
  have hphase : u.phase = .refreshing := hframe.phase
  have hrst : u.rstN = true := hrst.trans h.resetReleased
  rw [hrun, State.endSequence, hphase]
  cases ok with
  | true => exact hseq.complete _ (.inr rfl) hrst nofun
  | false => exact hseq.abort hrst

/-- Every request keeps the invariant, by what it has done. -/
theorem Effect.inv {s t : State} {i : Instr} (he : Effect s i t) (h : Inv s) : Inv t := by
  cases he with
  | answered => exact h.respond _ _
  | refusedSetup => exact h.respond _ _
  | refusedDisplay => exact h.respond _ _
  | painted => exact (h.memWrite _ _).respond _ _
  | filled => exact (h.memFill _).respond _ _
  | sentCmd => exact (h.tx _).respond _ _
  | sentData => exact (h.tx _).respond _ _
  | waited n u ok hpoll => exact h.waited ok hpoll
  | ranSetup u _ hframe _ hcounter hrst => exact h.ranSetup hframe hcounter hrst
  | ranDisplay => exact h.ranDisplay

/-- Settles O50: it holds; a step waits, answers or executes a request, and an engine under the invariant has no
sequence to resume. -/
theorem everyStepKeepsTheInvariant : Obligations.EveryStepKeepsTheInvariant := by
  unfold Obligations.EveryStepKeepsTheInvariant
  intro s t h hstep
  obtain ⟨-, -, hwait⟩ | ⟨r, rs, i, -, -, -, hexec⟩ | ⟨r, rs, e, -, -, -, hillegal⟩ | ⟨hbusy, -⟩ := step_cases s
  · cases hwait.symm.trans hstep
    exact h.delay 1
  · exact (exec_effect (hexec.symm.trans hstep)).inv (h.accept r rs)
  · cases hillegal.symm.trans hstep
    exact (h.accept r rs).respond _ _
  · exact absurd (h.ready.symm.trans hbusy) nofun

end Sys2Proof.Machine
end

section
/-! PROOFS. The encoding of requests (spec/30_encoding.md R70 to R83): which words the decoder reads as which
request, that the fields of a format's word are what it was written from, that they determine it, and that the
opcode map's rows say the same. -/

namespace Sys2Proof

/-! ### What the decoder reads -/

/-- The word `w` is legal and reads as the request: its opcode is the request's, its reserved bits are 0 and the
operands are its fields (R71, R77, R79). -/
inductive Decodes (w : Word) : Instr → Prop where
  | setpx (op : opcodeOf w = 1#4) (reserved : w.extractLsb' 24 3 = 0#3) :
      Decodes w (.setpx (xOf w) (yOf w) (colourOf w))
  | fill (op : opcodeOf w = 2#4) (reserved : w.extractLsb' 0 27 = 0#27) : Decodes w (.fill (colourOf w))
  | len (op : opcodeOf w = 3#4) (reserved : w.extractLsb' 0 28 = 0#28) : Decodes w .len
  | rdbyte (op : opcodeOf w = 4#4) (reserved : w.extractLsb' 16 12 = 0#12) : Decodes w (.rdbyte (imm16Of w))
  | cmd (op : opcodeOf w = 5#4) (reserved : w.extractLsb' 8 20 = 0#20) : Decodes w (.cmd (byteOf w))
  | data (op : opcodeOf w = 6#4) (reserved : w.extractLsb' 8 20 = 0#20) : Decodes w (.data (byteOf w))
  | wait (op : opcodeOf w = 7#4) (reserved : w.extractLsb' 16 12 = 0#12) : Decodes w (.wait (imm16Of w))
  | setup (op : opcodeOf w = 8#4) (reserved : w.extractLsb' 0 28 = 0#28) : Decodes w .setup
  | display (op : opcodeOf w = 9#4) (reserved : w.extractLsb' 0 28 = 0#28) : Decodes w .display
  | status (op : opcodeOf w = 10#4) (reserved : w.extractLsb' 0 28 = 0#28) : Decodes w .status

theorem decode_eq_ok_iff {w : Word} {i : Instr} : decode w = .ok i ↔ Decodes w i := by
  constructor
  · intro h
    obtain ⟨op, res, rfl⟩ | ⟨op, res, rfl⟩ | ⟨op, res, rfl⟩ | ⟨op, res, rfl⟩ | ⟨op, res, rfl⟩
      | ⟨op, res, rfl⟩ | ⟨op, res, rfl⟩ | ⟨op, res, rfl⟩ | ⟨op, res, rfl⟩ | ⟨op, res, rfl⟩ := decode_cases h
    · exact .setpx op res
    · exact .fill op res
    · exact .len op res
    · exact .rdbyte op res
    · exact .cmd op res
    · exact .data op res
    · exact .wait op res
    · exact .setup op res
    · exact .display op res
    · exact .status op res
  · intro h
    cases h <;> rename_i op res <;> simp [decode, checked, op, res]

/-- A word reads as one request. -/
theorem Decodes.unique {w : Word} {i j : Instr} (hi : Decodes w i) (hj : Decodes w j) : i = j :=
  Except.ok.inj ((decode_eq_ok_iff.2 hi).symm.trans (decode_eq_ok_iff.2 hj))

/-! ### The fields of each format's word -/

section
variable (op : BitVec 4) (c : Colour) (y x : BitVec 12) (imm : BitVec 16) (b : Byte)

theorem opcodeOf_encodeP : opcodeOf (encodeP op c y x) = op :=
  extractLsb'_eq_of_bits _ _ _ fun i hi => by
    simp (disch := omega) only [getLsbD_encodeP, if_neg, Nat.add_sub_cancel_left]

theorem reserved_encodeP : (encodeP op c y x).extractLsb' 24 3 = 0#3 :=
  extractLsb'_eq_of_bits _ _ _ fun i hi => by
    simp (disch := omega) only [getLsbD_encodeP, if_pos, if_neg, BitVec.getLsbD_zero]

theorem xOf_encodeP : xOf (encodeP op c y x) = x.toInt :=
  congrArg BitVec.toInt <| extractLsb'_eq_of_bits _ _ _ fun i hi => by simp [getLsbD_encodeP, hi]

theorem yOf_encodeP : yOf (encodeP op c y x) = y.toInt :=
  congrArg BitVec.toInt <| extractLsb'_eq_of_bits _ _ _ fun i hi => by
    simp [getLsbD_encodeP, show 12 + i < 24 by omega]

theorem colourOf_encodeP : colourOf (encodeP op c y x) = c := by
  rw [colourOf, getLsbD_encodeP]
  cases c <;> rfl

theorem opcodeOf_encodeF : opcodeOf (encodeF op c) = op :=
  extractLsb'_eq_of_bits _ _ _ fun i hi => by
    simp (disch := omega) only [getLsbD_encodeF, if_neg, Nat.add_sub_cancel_left]

theorem reserved_encodeF : (encodeF op c).extractLsb' 0 27 = 0#27 :=
  extractLsb'_eq_of_bits _ _ _ fun i hi => by simp [getLsbD_encodeF, hi]

theorem colourOf_encodeF : colourOf (encodeF op c) = c := by
  rw [colourOf, getLsbD_encodeF]
  cases c <;> rfl

theorem opcodeOf_encodeI16 : opcodeOf (encodeI16 op imm) = op :=
  extractLsb'_eq_of_bits _ _ _ fun i hi => by
    simp (disch := omega) only [getLsbD_encodeI16, if_neg, Nat.add_sub_cancel_left]

theorem reserved_encodeI16 : (encodeI16 op imm).extractLsb' 16 12 = 0#12 :=
  extractLsb'_eq_of_bits _ _ _ fun i hi => by
    simp (disch := omega) only [getLsbD_encodeI16, if_pos, if_neg, BitVec.getLsbD_zero]

theorem imm16Of_encodeI16 : imm16Of (encodeI16 op imm) = imm.toNat :=
  congrArg BitVec.toNat <| extractLsb'_eq_of_bits _ _ _ fun i hi => by simp [getLsbD_encodeI16, hi]

theorem opcodeOf_encodeB : opcodeOf (encodeB op b) = op :=
  extractLsb'_eq_of_bits _ _ _ fun i hi => by
    simp (disch := omega) only [getLsbD_encodeB, if_neg, Nat.add_sub_cancel_left]

theorem reserved_encodeB : (encodeB op b).extractLsb' 8 20 = 0#20 :=
  extractLsb'_eq_of_bits _ _ _ fun i hi => by
    simp (disch := omega) only [getLsbD_encodeB, if_pos, if_neg, BitVec.getLsbD_zero]

theorem byteOf_encodeB : byteOf (encodeB op b) = b :=
  extractLsb'_eq_of_bits _ _ _ fun i hi => by simp [getLsbD_encodeB, hi]

theorem opcodeOf_encodeN : opcodeOf (encodeN op) = op :=
  extractLsb'_eq_of_bits _ _ _ fun i hi => by
    simp (disch := omega) only [getLsbD_encodeN, if_neg, Nat.add_sub_cancel_left]

theorem reserved_encodeN : (encodeN op).extractLsb' 0 28 = 0#28 :=
  extractLsb'_eq_of_bits _ _ _ fun i hi => by simp [getLsbD_encodeN, hi]

end

/-- A coordinate in range survives its 12-bit field (R72, R79). -/
theorem toInt_ofInt_coordinate {x : Int} (h : -2048 ≤ x ∧ x ≤ 2047) : (BitVec.ofInt 12 x).toInt = x :=
  BitVec.toInt_ofInt_eq_self (by decide) (by omega) (by omega)

/-- An immediate in range survives its 16-bit field (R74). -/
theorem toNat_ofNat_imm16 {n : Nat} (h : n ≤ 65535) : (BitVec.ofNat 16 n).toNat = n :=
  (BitVec.toNat_ofNat ..).trans (Nat.mod_eq_of_lt (by omega))

/-- An admitted request's word reads as it. -/
theorem decodes_encode {i : Instr} (h : i.wf = true) : Decodes (encode i) i := by
  cases i with
  | setpx x y c =>
    simp only [Instr.wf, Bool.and_eq_true, decide_eq_true_eq] at h
    obtain ⟨hx, hy⟩ := h
    have hd := Decodes.setpx (opcodeOf_encodeP 1#4 c (.ofInt 12 y) (.ofInt 12 x)) (reserved_encodeP ..)
    rwa [xOf_encodeP, yOf_encodeP, colourOf_encodeP, toInt_ofInt_coordinate hx, toInt_ofInt_coordinate hy] at hd
  | fill c =>
    have hd := Decodes.fill (opcodeOf_encodeF 2#4 c) (reserved_encodeF ..)
    rwa [colourOf_encodeF] at hd
  | len => exact .len (opcodeOf_encodeN _) (reserved_encodeN _)
  | rdbyte n =>
    have hd := Decodes.rdbyte (opcodeOf_encodeI16 4#4 (.ofNat 16 n)) (reserved_encodeI16 ..)
    rwa [imm16Of_encodeI16, toNat_ofNat_imm16 (of_decide_eq_true h)] at hd
  | cmd b =>
    have hd := Decodes.cmd (opcodeOf_encodeB 5#4 b) (reserved_encodeB ..)
    rwa [byteOf_encodeB] at hd
  | data b =>
    have hd := Decodes.data (opcodeOf_encodeB 6#4 b) (reserved_encodeB ..)
    rwa [byteOf_encodeB] at hd
  | wait n =>
    have hd := Decodes.wait (opcodeOf_encodeI16 7#4 (.ofNat 16 n)) (reserved_encodeI16 ..)
    rwa [imm16Of_encodeI16, toNat_ofNat_imm16 (of_decide_eq_true h)] at hd
  | setup => exact .setup (opcodeOf_encodeN _) (reserved_encodeN _)
  | display => exact .display (opcodeOf_encodeN _) (reserved_encodeN _)
  | status => exact .status (opcodeOf_encodeN _) (reserved_encodeN _)

/-- Settles O1: it holds; each format's fields are read back, and operands in range survive their fields. -/
theorem decodeOfEncodeIsTheRequest : Obligations.DecodeOfEncodeIsTheRequest := by
  unfold Obligations.DecodeOfEncodeIsTheRequest
  exact fun _ h => decode_eq_ok_iff.2 (decodes_encode h)

/-! ### The fields of a legal word determine it -/

/-- A bit of a field. -/
theorem getLsbD_field (w : Word) {lo n i : Nat} (hlo : lo ≤ i) (hi : i < lo + n) :
    (w.extractLsb' lo n).getLsbD (i - lo) = w.getLsbD i := by
  simp [show i - lo < n by omega, Nat.add_sub_cancel' hlo]

/-- A bit of a field that is 0 is 0. -/
theorem getLsbD_of_field_zero {w : Word} {lo n i : Nat} (h : w.extractLsb' lo n = 0#n) (hlo : lo ≤ i)
    (hi : i < lo + n) : w.getLsbD i = false := by
  rw [← getLsbD_field w hlo hi, h, BitVec.getLsbD_zero]

theorem getLsbD_colourBit (w : Word) {i : Nat} (hlo : 27 ≤ i) (hi : i < 28) :
    (colourBit (colourOf w)).getLsbD (i - 27) = w.getLsbD i := by
  obtain rfl : i = 27 := by omega
  unfold colourOf
  cases w.getLsbD 27 <;> rfl

theorem encodeP_fields {w : Word} (h : w.extractLsb' 24 3 = 0#3) :
    encodeP (opcodeOf w) (colourOf w) (w.extractLsb' 12 12) (w.extractLsb' 0 12) = w := by
  refine BitVec.eq_of_getLsbD_eq fun i hi => ?_
  rw [getLsbD_encodeP]
  split_ifs
  · exact getLsbD_field w (by omega) (by omega)
  · exact getLsbD_field w (by omega) (by omega)
  · exact (getLsbD_of_field_zero h (by omega) (by omega)).symm
  · exact getLsbD_colourBit w (by omega) (by omega)
  · exact getLsbD_field w (by omega) (by omega)

theorem encodeF_fields {w : Word} (h : w.extractLsb' 0 27 = 0#27) : encodeF (opcodeOf w) (colourOf w) = w := by
  refine BitVec.eq_of_getLsbD_eq fun i hi => ?_
  rw [getLsbD_encodeF]
  split_ifs
  · exact (getLsbD_of_field_zero h (by omega) (by omega)).symm
  · exact getLsbD_colourBit w (by omega) (by omega)
  · exact getLsbD_field w (by omega) (by omega)

theorem encodeI16_fields {w : Word} (h : w.extractLsb' 16 12 = 0#12) :
    encodeI16 (opcodeOf w) (w.extractLsb' 0 16) = w := by
  refine BitVec.eq_of_getLsbD_eq fun i hi => ?_
  rw [getLsbD_encodeI16]
  split_ifs
  · exact getLsbD_field w (by omega) (by omega)
  · exact (getLsbD_of_field_zero h (by omega) (by omega)).symm
  · exact getLsbD_field w (by omega) (by omega)

theorem encodeB_fields {w : Word} (h : w.extractLsb' 8 20 = 0#20) : encodeB (opcodeOf w) (byteOf w) = w := by
  refine BitVec.eq_of_getLsbD_eq fun i hi => ?_
  rw [getLsbD_encodeB]
  split_ifs
  · exact getLsbD_field w (by omega) (by omega)
  · exact (getLsbD_of_field_zero h (by omega) (by omega)).symm
  · exact getLsbD_field w (by omega) (by omega)

theorem encodeN_fields {w : Word} (h : w.extractLsb' 0 28 = 0#28) : encodeN (opcodeOf w) = w := by
  refine BitVec.eq_of_getLsbD_eq fun i hi => ?_
  rw [getLsbD_encodeN]
  split_ifs
  · exact (getLsbD_of_field_zero h (by omega) (by omega)).symm
  · exact getLsbD_field w (by omega) (by omega)

theorem ofInt_xOf (w : Word) : BitVec.ofInt 12 (xOf w) = w.extractLsb' 0 12 := BitVec.ofInt_toInt

theorem ofInt_yOf (w : Word) : BitVec.ofInt 12 (yOf w) = w.extractLsb' 12 12 := BitVec.ofInt_toInt

theorem ofNat_imm16Of (w : Word) : BitVec.ofNat 16 (imm16Of w) = w.extractLsb' 0 16 := by
  rw [imm16Of, BitVec.ofNat_toNat, BitVec.setWidth_eq]

/-- Legal words are the words of the requests they read as. -/
theorem Decodes.encode_eq {w : Word} {i : Instr} (h : Decodes w i) : encode i = w := by
  cases h with
  | setpx op res => simpa only [encode, ofInt_xOf, ofInt_yOf, op] using encodeP_fields res
  | fill op res => simpa only [encode, op] using encodeF_fields res
  | len op res => simpa only [encode, op] using encodeN_fields res
  | rdbyte op res => simpa only [encode, ofNat_imm16Of, op] using encodeI16_fields res
  | cmd op res => simpa only [encode, op] using encodeB_fields res
  | data op res => simpa only [encode, op] using encodeB_fields res
  | wait op res => simpa only [encode, ofNat_imm16Of, op] using encodeI16_fields res
  | setup op res => simpa only [encode, op] using encodeN_fields res
  | display op res => simpa only [encode, op] using encodeN_fields res
  | status op res => simpa only [encode, op] using encodeN_fields res

/-- A sign-extended 12-bit field is a coordinate in range (R79). -/
theorem toInt_coordinate_range (v : BitVec 12) : -2048 ≤ v.toInt ∧ v.toInt ≤ 2047 := by
  have hmin : -2 ^ 11 ≤ v.toInt := v.le_toInt
  have hmax : v.toInt < 2 ^ 11 := v.toInt_lt
  omega

theorem imm16Of_le (w : Word) : imm16Of w ≤ 65535 :=
  Nat.le_of_lt_succ (w.extractLsb' 0 16).isLt

/-- Read operands are in their fields' ranges (R79, R82). -/
theorem Decodes.wf {w : Word} {i : Instr} (h : Decodes w i) : i.wf = true := by
  cases h with
  | setpx => simp only [Instr.wf, xOf, yOf, toInt_coordinate_range, and_self, decide_true, Bool.and_self]
  | rdbyte => exact decide_eq_true (imm16Of_le w)
  | wait => exact decide_eq_true (imm16Of_le w)
  | _ => rfl

/-- Settles O2: it holds; opcode, fields and reserved bits are all the bits of a word. -/
theorem encodeOfDecodeIsTheWord : Obligations.EncodeOfDecodeIsTheWord := by
  unfold Obligations.EncodeOfDecodeIsTheWord
  intro w i h
  have hd := decode_eq_ok_iff.1 h
  exact ⟨hd.encode_eq, hd.wf⟩

/-- Settles O4: it holds; the operands are what `Decodes` reads, and a coordinate is 12 bits wide. -/
theorem operandsAreTheWordsFields : Obligations.OperandsAreTheWordsFields := by
  unfold Obligations.OperandsAreTheWordsFields
  simp only [decode_eq_ok_iff]
  refine ⟨fun w x y c h => ?setpx, fun w c h => ?_, fun w i h => ?_, fun w t h => ?_, fun w b h => ?_,
    fun w b h => ?_⟩
  case setpx =>
    cases h
    obtain ⟨hx, hx'⟩ := toInt_coordinate_range (w.extractLsb' 0 12)
    obtain ⟨hy, hy'⟩ := toInt_coordinate_range (w.extractLsb' 12 12)
    exact ⟨rfl, rfl, rfl, hx, hx', hy, hy'⟩
  all_goals cases h; rfl

/-! ### The opcode map -/

/-- Where a row's mask covers a field, a word that matches the row has the pattern's field (R77). -/
theorem field_of_rowMatches {w : Word} {r : OpcodeRow} (h : rowMatches w r = true) (lo : Nat) {n : Nat}
    (hmask : r.mask.extractLsb' lo n = BitVec.allOnes n) : w.extractLsb' lo n = r.pattern.extractLsb' lo n := by
  have hand : w &&& r.mask = r.pattern := by simpa [rowMatches] using h
  rw [← hand, BitVec.extractLsb'_and, hmask, BitVec.and_allOnes]

/-- A word that matches a row of the map is legal and reads as a request of that row. -/
theorem decodes_of_rowMatches {w : Word} {r : OpcodeRow} (hr : r ∈ opcodeMap) (h : rowMatches w r = true) :
    ∃ i, Decodes w i ∧ opcodeRow i = r := by
  simp only [opcodeMap, List.mem_cons, List.not_mem_nil, or_false] at hr
  obtain rfl | rfl | rfl | rfl | rfl | rfl | rfl | rfl | rfl | rfl := hr
  · exact ⟨_, .setpx (field_of_rowMatches h 28 (by decide)) (field_of_rowMatches h 24 (by decide)), rfl⟩
  · exact ⟨_, .fill (field_of_rowMatches h 28 (by decide)) (field_of_rowMatches h 0 (by decide)), rfl⟩
  · exact ⟨_, .len (field_of_rowMatches h 28 (by decide)) (field_of_rowMatches h 0 (by decide)), rfl⟩
  · exact ⟨_, .rdbyte (field_of_rowMatches h 28 (by decide)) (field_of_rowMatches h 16 (by decide)), rfl⟩
  · exact ⟨_, .cmd (field_of_rowMatches h 28 (by decide)) (field_of_rowMatches h 8 (by decide)), rfl⟩
  · exact ⟨_, .data (field_of_rowMatches h 28 (by decide)) (field_of_rowMatches h 8 (by decide)), rfl⟩
  · exact ⟨_, .wait (field_of_rowMatches h 28 (by decide)) (field_of_rowMatches h 16 (by decide)), rfl⟩
  · exact ⟨_, .setup (field_of_rowMatches h 28 (by decide)) (field_of_rowMatches h 0 (by decide)), rfl⟩
  · exact ⟨_, .display (field_of_rowMatches h 28 (by decide)) (field_of_rowMatches h 0 (by decide)), rfl⟩
  · exact ⟨_, .status (field_of_rowMatches h 28 (by decide)) (field_of_rowMatches h 0 (by decide)), rfl⟩

/-- Every request's word matches its row. -/
theorem rowMatches_encode (i : Instr) : rowMatches (encode i) (opcodeRow i) = true := by
  cases i with
  | setpx x y c => exact Laws.MatchesItsRow.setpx x y c
  | fill c => exact Laws.MatchesItsRow.fill c
  | len => exact Laws.MatchesItsRow.len
  | rdbyte n => exact Laws.MatchesItsRow.rdbyte n
  | cmd b => exact Laws.MatchesItsRow.cmd b
  | data b => exact Laws.MatchesItsRow.data b
  | wait n => exact Laws.MatchesItsRow.wait n
  | setup => exact Laws.MatchesItsRow.setup
  | display => exact Laws.MatchesItsRow.display
  | status => exact Laws.MatchesItsRow.status

/-- A legal word matches the row of its request. -/
theorem Decodes.matchesItsRow {w : Word} {i : Instr} (h : Decodes w i) : rowMatches w (opcodeRow i) = true :=
  h.encode_eq ▸ rowMatches_encode i

theorem opcodeMap_nodup : opcodeMap.Nodup := by decide

theorem opcodeRow_mem_opcodeMap (i : Instr) : opcodeRow i ∈ opcodeMap := by
  cases i <;> simp [opcodeMap, opcodeRow]

/-- Of the map's rows a legal word matches its own and no other. -/
theorem Decodes.rowMatches_iff {w : Word} {i : Instr} (h : Decodes w i) {r : OpcodeRow} (hr : r ∈ opcodeMap) :
    rowMatches w r = true ↔ r = opcodeRow i := by
  constructor
  · intro hmatch
    obtain ⟨j, hj, rfl⟩ := decodes_of_rowMatches hr hmatch
    rw [h.unique hj]
  · rintro rfl
    exact h.matchesItsRow

theorem Decodes.filter_opcodeMap {w : Word} {i : Instr} (h : Decodes w i) :
    opcodeMap.filter (rowMatches w) = [opcodeRow i] := by
  have hsame : opcodeMap.filter (rowMatches w) = opcodeMap.filter (· == opcodeRow i) :=
    List.filter_congr fun r hr => by rw [Bool.eq_iff_iff, h.rowMatches_iff hr, beq_iff_eq]
  rw [hsame, List.filter_beq, List.count_eq_one_of_mem opcodeMap_nodup (opcodeRow_mem_opcodeMap i)]
  rfl

/-- Settles O3: it holds; matching a row of the map and reading as a request of that row are the same. -/
theorem everyWordMatchesItsRowOrIsIllegal : Obligations.EveryWordMatchesItsRowOrIsIllegal := by
  unfold Obligations.EveryWordMatchesItsRowOrIsIllegal
  refine fun w => ⟨fun i h => (decode_eq_ok_iff.1 h).filter_opcodeMap, fun e he => ?_⟩
  refine List.filter_eq_nil_iff.2 fun r hr hmatch => ?_
  obtain ⟨i, hi, -⟩ := decodes_of_rowMatches hr hmatch
  cases he.symm.trans (decode_eq_ok_iff.2 hi)

/-! ### The spec's examples -/

theorem decode_of_assemble {i : Instr} {w : Word} (h : assemble i = some w) : decode w = .ok i := by
  obtain ⟨hwf, rfl⟩ : i.wf = true ∧ encode i = w := by simpa [assemble] using h
  exact decodeOfEncodeIsTheRequest i hwf

/-- Settles O5: it holds; each word is the assembled word of its request. -/
theorem specExampleWordsDecode : Obligations.SpecExampleWordsDecode := by
  unfold Obligations.SpecExampleWordsDecode
  refine ⟨?_, ?_, ?_, ?_, ?_, ?_, ?_, ?_, ?_, ?_, ?_, ?_, ?_⟩ <;> exact decode_of_assemble (by decide)

end Sys2Proof
end

section
/-! PROOFS. The port (spec/30_encoding.md R78, R86, R87): a ready port's step is the request it takes, a busy port's
is the rest of its sequence, every request is answered, and the pseudo-instructions run as their requests. -/

namespace Sys2Proof.Machine

open Sys2Proof.Claims (runInstrs)

/-! ### The step of a ready port -/

theorem step_legal {s : State} {r : Request} {rs : List Request} {i : Instr} (hready : s.portReady = true)
    (hr : s.requests = r :: rs) (hd : decode r.word = .ok i) : step s = exec i (s.accept r rs) := by
  simp [step, hready, hr, hd]

theorem step_illegal {s : State} {r : Request} {rs : List Request} {e : DecodeError}
    (hready : s.portReady = true) (hr : s.requests = r :: rs) (hd : decode r.word = .error e) :
    step s = .next ((s.accept r rs).respond .errIllegal 0#16) := by
  simp [step, hready, hr, hd, answerIllegal]

/-- Settles O6: it holds; the two equations of a ready port's step. -/
theorem stepRunsTheDecodedRequest : Obligations.StepRunsTheDecodedRequest := by
  unfold Obligations.StepRunsTheDecodedRequest
  exact fun s r rs hready hr => ⟨fun i hd => step_legal hready hr hd, fun e hd => step_illegal hready hr hd⟩

/-- A word placed at the port is presented with all its bits. -/
theorem tableWord_toNat (w : Word) : tableWord 32 w.toNat = w := by
  rw [tableWord, Nat.mod_eq_of_lt w.isLt, BitVec.ofNat_toNat, BitVec.setWidth_eq]

/-- Taking the placed word leaves the engine as it was before it was placed, with no response standing. -/
theorem accept_withFetchWord (s : State) (nbits w : Nat) :
    (s.withFetchWord nbits w).accept ⟨0, tableWord nbits w⟩ s.requests = { s with response := none } := rfl

/-- Settles O8: it holds; the placed word is the next request, and decodes to the one it was encoded from. -/
theorem placedWordRunsNext : Obligations.PlacedWordRunsNext := by
  unfold Obligations.PlacedWordRunsNext
  intro s i hready hwf
  have hd : decode (tableWord 32 (encode i).toNat) = .ok i := by
    rw [tableWord_toNat]
    exact decodeOfEncodeIsTheRequest i hwf
  rw [← accept_withFetchWord s 32]
  exact step_legal hready rfl hd

/-! ### The step of a busy port -/

theorem resumeSequence_eq_next {s t : State} (h : resumeSequence s = .next t) : ∃ ks, t = runSequence ks s := by
  unfold resumeSequence at h
  split at h
  · cases h; exact ⟨_, rfl⟩
  · cases h

/-- A sequence takes no request from the host's list (R87). -/
theorem runSequence_requests (ks : List SeqStep) (s : State) : (runSequence ks s).requests = s.requests := by
  obtain ⟨t, ok, hframe, hrun⟩ := runSequence_frame ks s
  obtain ⟨-, -, hrequests, -⟩ := t.endSequence_frame ok
  rw [hrun, hrequests, hframe.requests]

/-- Settles O9: it holds; the step is the rest of the sequence, whose sub-steps and end write none of the three. -/
theorem busyPortTakesNoRequest : Obligations.BusyPortTakesNoRequest := by
  unfold Obligations.BusyPortTakesNoRequest
  intro s t hbusy hstep
  have hresume : step s = resumeSequence s := by simp [step, hbusy]
  obtain ⟨ks, rfl⟩ := resumeSequence_eq_next (hresume.symm.trans hstep)
  exact ⟨runSequence_requests ks s, runSequence_fb ks s, (Extends.runSequence ks s).cfg⟩

/-! ### Every request is answered -/

/-- A response stands, of one of the four codes, and with value 0 where it is an error's (R78). -/
def Answered (t : State) : Prop :=
  ∃ code value, t.response = some (responseWord code value) ∧ (code ≠ .ok → value = 0#16)

theorem Answered.ok {t : State} {v : BitVec 16} (h : t.response = some (responseWord .ok v)) : Answered t :=
  ⟨.ok, v, h, fun hne => absurd rfl hne⟩

theorem Answered.reject (s : State) (c : ResultCode) : Answered (s.reject c) := ⟨c, 0#16, rfl, fun _ => rfl⟩

/-- A response is laid out as a request of format I16, its code in the opcode's place (R71, R78). -/
theorem responseWord_eq_encodeI16 (c : ResultCode) (v : BitVec 16) :
    responseWord c v = encodeI16 (resultCodeBits c) v := rfl

theorem responseWord_reserved (c : ResultCode) (v : BitVec 16) :
    (responseWord c v).extractLsb' 16 12 = 0#12 :=
  responseWord_eq_encodeI16 c v ▸ reserved_encodeI16 (resultCodeBits c) v

theorem responseWord_code (c : ResultCode) (v : BitVec 16) :
    (responseWord c v).extractLsb' 28 4 = resultCodeBits c :=
  responseWord_eq_encodeI16 c v ▸ opcodeOf_encodeI16 (resultCodeBits c) v

theorem resultCodeBits_le (c : ResultCode) : (resultCodeBits c).toNat ≤ 3 := by cases c <;> decide

/-- The end of a sequence answers (R160). -/
theorem State.endSequence_answered {s : State} (hbusy : s.portReady = false) (ok : Bool) :
    Answered (s.endSequence ok) := by
  obtain ⟨-, hend⟩ | ⟨-, -, hend⟩ | ⟨-, -, hend⟩ | ⟨-, hend⟩ | ⟨hphase, -⟩ := s.endSequence_cases ok
  · exact hend ▸ .ok rfl
  · exact hend ▸ .ok rfl
  · exact hend ▸ .ok rfl
  · exact hend ▸ .ok rfl
  · cases hbusy.symm.trans (s.portReady_iff.2 hphase)

theorem runSequence_answered {s : State} (hbusy : s.portReady = false) (ks : List SeqStep) :
    Answered (runSequence ks s) := by
  obtain ⟨t, ok, hframe, hrun⟩ := runSequence_frame ks s
  have hbusy' : t.portReady = false := by simpa [State.portReady, hframe.phase] using hbusy
  exact hrun ▸ t.endSequence_answered hbusy' ok

theorem execSetpx_completes {s : State} (hwf : s.cfg.profile.wf = true) (hfb : s.fbWf) (x y : Int) (c : Colour) :
    ∃ t, execSetpx x y c s = .next t ∧ Answered t := by
  unfold execSetpx
  cases hd : decodePixel s.cfg.profile x y with
  | none => exact ⟨_, rfl, .ok rfl⟩
  | some a =>
    obtain ⟨i, k⟩ := a
    have hi : i < byteLength s.cfg.profile := (pixelDecoderIsABijection _ hwf).1 x y i k hd
    obtain ⟨v, hv⟩ := Memory.exists_read hfb hi
    simp only [hv]
    exact ⟨_, rfl, .ok rfl⟩

theorem execRdbyte_completes {s : State} (hfb : s.fbWf) (i : Nat) :
    ∃ t, execRdbyte i s = .next t ∧ Answered t := by
  unfold execRdbyte
  split
  · exact ⟨_, rfl, .reject _ _⟩
  · obtain ⟨v, hv⟩ := Memory.exists_read hfb (i := i) (by omega)
    simp only [hv]
    exact ⟨_, rfl, .ok rfl⟩

/-- With a well-formed profile and every framebuffer byte there, every request completes with a response (R235). -/
theorem exec_completes {s : State} (hwf : s.cfg.profile.wf = true) (hfb : s.fbWf) (i : Instr) :
    ∃ t, exec i s = .next t ∧ Answered t := by
  cases i with
  | setpx x y c => exact execSetpx_completes hwf hfb x y c
  | fill c => exact ⟨_, rfl, .ok rfl⟩
  | len => exact ⟨_, rfl, .ok rfl⟩
  | rdbyte n => exact execRdbyte_completes hfb n
  | cmd b => exact ⟨_, rfl, .ok rfl⟩
  | data b => exact ⟨_, rfl, .ok rfl⟩
  | wait n => exact ⟨_, rfl, runSequence_answered rfl _⟩
  | setup =>
    by_cases hfresh : s.phase = .uninit
    · exact ⟨_, if_pos hfresh, runSequence_answered rfl _⟩
    · exact ⟨_, if_neg hfresh, .reject _ _⟩
  | display =>
    by_cases hfresh : s.phase = .uninit
    · exact ⟨_, if_pos hfresh, .reject _ _⟩
    · exact ⟨_, if_neg hfresh, runSequence_answered rfl _⟩
  | status => exact ⟨_, rfl, .ok rfl⟩

/-- A step that takes a request ends with its response (R64, R87). -/
theorem Inv.step_request {s : State} (h : Inv s) {r : Request} {rs : List Request} (hr : s.requests = r :: rs) :
    ∃ t, step s = .next t ∧ Answered t := by
  cases hd : decode r.word with
  | ok i =>
    rw [step_legal h.ready hr hd]
    exact exec_completes (h.accept r rs).profile (h.accept r rs).framebuffer i
  | error e => exact ⟨_, step_illegal h.ready hr hd, .reject _ _⟩

/-- Settles O11: it holds; no engine lacks the framebuffer byte a request reads, and every path of a request ends
in a response. -/
theorem everyRequestCompletesWithAResponse : Obligations.EveryRequestCompletesWithAResponse := by
  unfold Obligations.EveryRequestCompletesWithAResponse
  refine fun s h => ⟨?_, fun t r rs hr hstep => ?_⟩
  · cases hr : s.requests with
    | nil => exact ⟨s.delay 1, by simp [step, h.ready, hr, waitForRequest]⟩
    | cons r rs =>
      obtain ⟨t, hstep, -⟩ := h.step_request hr
      exact ⟨t, hstep⟩
  · obtain ⟨u, hu, code, value, hresponse, hvalue⟩ := h.step_request hr
    cases hu.symm.trans hstep
    refine ⟨code, value, hresponse, hvalue, responseWord_reserved code value, ?_⟩
    rw [responseWord_code]
    exact resultCodeBits_le code

/-! ### The pseudo-instructions -/

theorem runInstrs_singleton (i : Instr) (s : State) : runInstrs [i] s = exec i s := by
  cases h : exec i s <;> simp [runInstrs, h]

theorem exec_cmd (b : Byte) (s : State) : exec (.cmd b) s = .next ((s.send [cmdTx b]).respond .ok 0#16) := by
  rw [← State.tx_eq_send]; rfl

theorem exec_data (b : Byte) (s : State) : exec (.data b) s = .next ((s.send [dataTx b]).respond .ok 0#16) := by
  rw [← State.tx_eq_send]; rfl

/-- A request that sends one byte, and DATA requests after it, are one stream, answered once (R127): the response
that stands before each DATA is of no account. -/
theorem runInstrs_stream {i : Instr} {x : Tx} {s : State} (h : exec i s = .next ((s.send [x]).respond .ok 0#16))
    (ds : List Byte) :
    runInstrs (i :: ds.map .data) s = .next ((s.send (x :: ds.map dataTx)).respond .ok 0#16) := by
  induction ds generalizing i x s with
  | nil => exact (runInstrs_singleton i s).trans h
  | cons d ds ih =>
    calc runInstrs (i :: (d :: ds).map .data) s
        = runInstrs (.data d :: ds.map .data) ((s.send [x]).respond .ok 0#16) := by
          rw [List.map_cons, runInstrs, h]
      _ = .next ((((s.send [x]).respond .ok 0#16).send ((d :: ds).map dataTx)).respond .ok 0#16) :=
          ih (exec_data d _)
      _ = .next (((s.send [x]).send ((d :: ds).map dataTx)).respond .ok 0#16) := rfl
      _ = .next ((s.send (x :: (d :: ds).map dataTx)).respond .ok 0#16) := by
          rw [← State.send_append, List.singleton_append]

/-- Settles O25: it holds; SEND and DATA are streams, WAIT and CLEAR one request each. -/
theorem pseudoInstructionsRunAsTheirRequests : Obligations.PseudoInstructionsRunAsTheirRequests := by
  unfold Obligations.PseudoInstructionsRunAsTheirRequests
  refine ⟨fun s code ds => ?_, fun s d ds => ?_, runInstrs_singleton _, runInstrs_singleton _⟩
  · exact runInstrs_stream (exec_cmd code s) ds
  · exact runInstrs_stream (exec_data d s) ds

end Sys2Proof.Machine
end

section
/-! PROOFS. The framebuffer requests (spec/40_framebuffer.md): SETPX as the painting of one bit, what a painted and
a filled memory read, and so the colour of a pixel after any requests; and that what moves the bus is transactions
alone. -/

namespace Sys2Proof.Machine

open Sys2Proof.Claims (runInstrs lastPaint isBusEvent)

/-! ### Painting one bit -/

@[simp] theorem getElem_paintBit (c : Colour) (k : Fin 8) (v : Byte) {b : Nat} (hb : b < 8) :
    (paintBit c k v)[b] = if b = k.val then decide (c = .white) else v[b] := by
  have hmask : (1#8 <<< k.val)[b] = decide (b = k.val) := by
    rw [BitVec.getElem_shiftLeft, BitVec.getElem_one, Bool.eq_iff_iff]
    simp only [Bool.and_eq_true, decide_eq_true_eq, Bool.not_eq_true', decide_eq_false_iff_not]
    omega
  cases c with
  | black =>
    rw [paintBit, BitVec.getElem_and, BitVec.getElem_not, hmask]
    by_cases h : b = k.val <;> simp [h]
  | white =>
    rw [paintBit, BitVec.getElem_or, hmask]
    by_cases h : b = k.val <;> simp [h]

theorem paintBit_comm {k k' : Fin 8} (h : k ≠ k') (c c' : Colour) (v : Byte) :
    paintBit c k (paintBit c' k' v) = paintBit c' k' (paintBit c k v) := by
  have hne : k.val ≠ k'.val := Fin.val_ne_of_ne h
  refine BitVec.eq_of_getElem_eq fun b hb => ?_
  by_cases hk : b = k.val
  · simp [hk, hne]
  · simp [hk]

/-- The memory with bit `k` of byte `i` made the colour's: what SETPX writes (R100). -/
def Memory.paint (m : Memory) (i : Nat) (k : Fin 8) (c : Colour) : Memory :=
  match m.read i with
  | some v => m.write i (paintBit c k v)
  | none => m

theorem Memory.wf_paint (len : Nat) (m : Memory) (i : Nat) (k : Fin 8) (c : Colour) :
    (m.paint i k c).wf len = m.wf len := by
  unfold Memory.paint
  split
  · exact m.wf_write len i _
  · rfl

theorem Memory.read_paint (m : Memory) (i j : Nat) (k : Fin 8) (c : Colour) :
    (m.paint i k c).read j = (m.read j).map fun v => if j = i then paintBit c k v else v := by
  unfold Memory.paint
  by_cases hj : j = i
  · subst hj
    cases hv : m.read j with
    | none => simp [hv]
    | some v => simp [m.read_write_same _ (by simp [hv] : (m.read j).isSome = true)]
  · cases m.read i with
    | none => simp [hj]
    | some v => simp [hj, m.read_write_other (paintBit c k v) hj]

/-- Paintings of two bits commute, in one byte or in two (R105). -/
theorem Memory.paint_comm {len : Nat} {m : Memory} (hm : m.wf len = true) {i i' : Nat} {k k' : Fin 8}
    (h : (i, k) ≠ (i', k')) (c c' : Colour) :
    (m.paint i k c).paint i' k' c' = (m.paint i' k' c').paint i k c := by
  refine Memory.ext_of_wf (len := len) (by simpa [Memory.wf_paint]) (by simpa [Memory.wf_paint]) fun j _ => ?_
  simp only [Memory.read_paint, Option.map_map]
  refine Option.map_congr fun v _ => ?_
  by_cases hi : j = i
  · by_cases hi' : j = i'
    · have hk : k' ≠ k := fun hk => h (by rw [← hi, ← hi', hk])
      simp [hi, hi ▸ hi', paintBit_comm hk]
    · simp [hi, hi ▸ hi']
  · simp [hi]

/-! ### The requests -/

/-- The answer OK, 0, as a whole word (R78). -/
theorem responseWord_ok_zero : responseWord .ok 0#16 = 0#32 := by decide

theorem exec_setpx_outOfBounds {s : State} {x y : Int} (h : decodePixel s.cfg.profile x y = none) (c : Colour) :
    exec (.setpx x y c) s = .next { s with response := some 0#32 } := by
  simp [exec, execSetpx, h, State.respond, responseWord_ok_zero]

/-- The byte of a pixel's address is there (R50, R57). -/
theorem exists_read_of_decodePixel {p : Profile} (hwf : p.wf = true) {m : Memory}
    (hm : m.wf (byteLength p) = true) {x y : Int} {i : Nat} {k : Fin 8} (h : decodePixel p x y = some (i, k)) :
    ∃ v, m.read i = some v :=
  Memory.exists_read hm ((pixelDecoderIsABijection p hwf).1 x y i k h)

/-- In bounds SETPX paints the pixel's bit and answers OK, 0 (R100). -/
theorem exec_setpx_inBounds {s : State} (hwf : s.cfg.profile.wf = true) (hfb : s.fbWf) {x y : Int} {i : Nat}
    {k : Fin 8} (h : decodePixel s.cfg.profile x y = some (i, k)) (c : Colour) :
    exec (.setpx x y c) s = .next { s with fb := s.fb.paint i k c, response := some 0#32 } := by
  obtain ⟨v, hv⟩ := exists_read_of_decodePixel hwf hfb h
  simp [exec, execSetpx, h, hv, State.respond, State.memWrite, Memory.paint, responseWord_ok_zero]

/-- Settles O15: it holds; the decoder gives no address out of bounds. -/
theorem outOfBoundsSetpxChangesNothing : Obligations.OutOfBoundsSetpxChangesNothing := by
  unfold Obligations.OutOfBoundsSetpxChangesNothing
  exact fun s x y c h => exec_setpx_outOfBounds (decodePixel_outOfBounds h) c

/-- Settles O14: it holds; the memory painted is read bit by bit. -/
theorem setpxPaintsExactlyOneBit : Obligations.SetpxPaintsExactlyOneBit := by
  unfold Obligations.SetpxPaintsExactlyOneBit
  intro s x y c i k hwf hfb hd
  obtain ⟨v, hv⟩ := exists_read_of_decodePixel hwf hfb hd
  refine ⟨s.fb.paint i k c, v, paintBit c k v, exec_setpx_inBounds hwf hfb hd c, hv, ?_,
    fun b => ?_, fun j hj => ?_⟩
  · simp [Memory.read_paint, hv]
  · simp [Fin.ext_iff]
  · simp [Memory.read_paint, hj]

/-- Settles O16: it holds; a filled memory has the cells it had. -/
theorem fillSetsEveryByte : Obligations.FillSetsEveryByte := by
  unfold Obligations.FillSetsEveryByte
  refine fun s c => ⟨s.fb.fill (fillByte c), rfl, fun i => ?_⟩
  rw [Memory.read_fill]
  cases c <;> rfl

/-- An OK answer is its value, as a number (R78). -/
theorem responseWord_ok_toNat (v : BitVec 16) : (responseWord .ok v).toNat = v.toNat := by
  have happend : (responseWord .ok v).toNat = 0 <<< 16 ||| v.toNat := BitVec.toNat_append (0#16) v
  rw [happend, Nat.zero_shiftLeft, Nat.zero_or]

/-- Settles O17: it holds; R29 bounds the byte count by what a response's value can say. -/
theorem lenAnswersTheByteCount : Obligations.LenAnswersTheByteCount := by
  unfold Obligations.LenAnswersTheByteCount
  intro s hwf
  obtain ⟨-, -, -, -, hlen, -⟩ := (Profile.wf_iff _).1 hwf
  exact ⟨_, rfl, (responseWord_ok_toNat _).trans (toNat_ofNat_imm16 hlen)⟩

/-! ### SETPX at two pixels -/

theorem decodePixel_of_inBounds {p : Profile} {x y : Int} (h : inBounds p x y = true) :
    decodePixel p x y = some (byteIndex p x y, bitPos x) := if_pos h

/-- Two pixels have two addresses (R58). -/
theorem decodePixel_injective {p : Profile} (hwf : p.wf = true) {x y x' y' : Int} {a : Nat × Fin 8}
    (h : decodePixel p x y = some a) (h' : decodePixel p x' y' = some a) : x' = x ∧ y' = y := by
  obtain ⟨hrange, hunique⟩ := pixelDecoderIsABijection p hwf
  obtain ⟨_, _, -, heq⟩ := hunique a.1 a.2 (hrange x y a.1 a.2 h)
  obtain ⟨rfl, rfl⟩ := heq x y h
  exact heq x' y' h'

/-- Two requests SETPX in bounds paint one bit after the other. -/
theorem runInstrs_setpx_setpx {s : State} (hwf : s.cfg.profile.wf = true) (hfb : s.fbWf) {x y x' y' : Int}
    {i i' : Nat} {k k' : Fin 8} (h : decodePixel s.cfg.profile x y = some (i, k))
    (h' : decodePixel s.cfg.profile x' y' = some (i', k')) (c c' : Colour) :
    runInstrs [.setpx x y c, .setpx x' y' c'] s
      = .next { s with fb := (s.fb.paint i k c).paint i' k' c', response := some 0#32 } := by
  rw [runInstrs, exec_setpx_inBounds hwf hfb h]
  refine (runInstrs_singleton _ _).trans (exec_setpx_inBounds ?_ ?_ ?_ c')
  · exact hwf
  · exact (Memory.wf_paint _ _ i k c).trans hfb
  · exact h'

/-- Settles O20: it holds; two pixels have two addresses, and paintings of two bits commute. -/
theorem setpxAtDifferentPixelsCommute : Obligations.SetpxAtDifferentPixelsCommute := by
  unfold Obligations.SetpxAtDifferentPixelsCommute
  intro s x y x' y' c c' hwf hfb hb hb' hne
  have hd := decodePixel_of_inBounds hb
  have hd' := decodePixel_of_inBounds hb'
  have haddr : (byteIndex s.cfg.profile x y, bitPos x) ≠ (byteIndex s.cfg.profile x' y', bitPos x') := by
    intro heq
    obtain ⟨rfl, rfl⟩ := decodePixel_injective hwf hd (heq ▸ hd')
    exact hne rfl
  rw [runInstrs_setpx_setpx hwf hfb hd hd', runInstrs_setpx_setpx hwf hfb hd' hd, Memory.paint_comm hfb haddr]

/-! ### The colour of a pixel -/

/-- What the read-back predicate says of a pixel that a request gave the colour `o`, if one did, and that read as
`before` else (R56, R104). -/
def coloredAfter (o : Option Colour) (before : Option Bool) : Option Bool :=
  match o with
  | some c => some (decide (c = .black))
  | none => before

theorem colored_paint {p : Profile} (hwf : p.wf = true) {m : Memory} (hm : m.wf (byteLength p) = true)
    {x y x' y' : Int} (hb : inBounds p x y = true) {i : Nat} {k : Fin 8}
    (h : decodePixel p x' y' = some (i, k)) (c : Colour) :
    colored p (m.paint i k c) x y =
      if x' = x ∧ y' = y then some (decide (c = .black)) else colored p m x y := by
  by_cases hsame : x' = x ∧ y' = y
  · obtain ⟨rfl, rfl⟩ := hsame
    obtain ⟨v, hv⟩ := exists_read_of_decodePixel hwf hm h
    cases c <;> simp [colored, h, Memory.read_paint, hv]
  · have hd := decodePixel_of_inBounds hb
    have haddr : ¬(byteIndex p x y = i ∧ bitPos x = k) := by
      rintro ⟨rfl, rfl⟩
      exact hsame (decodePixel_injective hwf hd h)
    simp only [if_neg hsame, colored, hd, Memory.read_paint, Option.map_map]
    refine Option.map_congr fun v _ => ?_
    by_cases hi : byteIndex p x y = i
    · have hk : (bitPos x).val ≠ k.val := fun hk => haddr ⟨hi, Fin.ext hk⟩
      simp [hi, hk]
    · simp [hi]

theorem colored_fill {p : Profile} (hwf : p.wf = true) {m : Memory} (hm : m.wf (byteLength p) = true)
    {x y : Int} (hb : inBounds p x y = true) (c : Colour) :
    colored p (m.fill (fillByte c)) x y = some (decide (c = .black)) := by
  have hd := decodePixel_of_inBounds hb
  obtain ⟨v, hv⟩ := exists_read_of_decodePixel hwf hm hd
  have hbyte : ∀ k : Fin 8, (!(fillByte c).getLsbD k.val) = decide (c = .black) := by cases c <;> decide
  simp only [colored, hd, Memory.read_fill, hv, Option.map_some, hbyte]

/-- SETPX gives its own pixel its colour, and every other keeps the one it had: in bounds or not (R100, R106). -/
theorem exec_setpx_colored {s t : State} (hs : Inv s) {x y x' y' : Int} {c : Colour}
    (hb : inBounds s.cfg.profile x y = true) (h : exec (.setpx x' y' c) s = .next t) :
    colored t.cfg.profile t.fb x y =
      if x' = x ∧ y' = y then some (decide (c = .black)) else colored s.cfg.profile s.fb x y := by
  cases hd : decodePixel s.cfg.profile x' y' with
  | none =>
    have hother : ¬(x' = x ∧ y' = y) := by
      rintro ⟨rfl, rfl⟩
      cases hd.symm.trans (decodePixel_of_inBounds hb)
    cases (exec_setpx_outOfBounds hd c).symm.trans h
    exact (if_neg hother).symm
  | some a =>
    cases (exec_setpx_inBounds hs.profile hs.framebuffer hd c).symm.trans h
    exact colored_paint hs.profile hs.framebuffer hb hd c

theorem exec_other_colored {s t : State} {i : Instr} (h : exec i s = .next t) (hsetpx : ∀ x y c, i ≠ .setpx x y c)
    (hfill : ∀ c, i ≠ .fill c) (x y : Int) :
    colored t.cfg.profile t.fb x y = colored s.cfg.profile s.fb x y := by
  rw [(exec_extends h).cfg, onlySetpxAndFillWriteTheFramebuffer s t i h hsetpx hfill]

/-- One request gives the pixel the colour that `lastPaint` reads off it. -/
theorem exec_colored {s t : State} (hs : Inv s) {i : Instr} {x y : Int} (hb : inBounds s.cfg.profile x y = true)
    (h : exec i s = .next t) {old : Option Colour} {before : Option Bool}
    (hold : colored s.cfg.profile s.fb x y = coloredAfter old before) :
    colored t.cfg.profile t.fb x y = coloredAfter (lastPaint x y old [i]) before := by
  cases i with
  | setpx x' y' c =>
    rw [exec_setpx_colored hs hb h, hold, lastPaint, lastPaint]
    split <;> rfl
  | fill c => cases h; exact colored_fill hs.profile hs.framebuffer hb c
  | _ => exact (exec_other_colored h nofun nofun x y).trans hold

/-- `lastPaint` reads the first request, and then the rest. -/
theorem lastPaint_cons (x y : Int) (old : Option Colour) (i : Instr) (is : List Instr) :
    lastPaint x y old (i :: is) = lastPaint x y (lastPaint x y old [i]) is := by
  cases i <;> rfl

theorem runInstrs_cons {i : Instr} {is : List Instr} {s t : State} (h : runInstrs (i :: is) s = .next t) :
    ∃ u, exec i s = .next u ∧ runInstrs is u = .next t := by
  rw [runInstrs] at h
  cases hu : exec i s with
  | next u => exact ⟨u, rfl, by simpa [hu] using h⟩
  | fault r => simp [hu] at h
  | refused r => simp [hu] at h

/-- The colour that `lastPaint` has read off the requests run so far stands (R104). -/
theorem runInstrs_colored {s t : State} (hs : Inv s) {is : List Instr} {x y : Int}
    (hb : inBounds s.cfg.profile x y = true) (h : runInstrs is s = .next t) {old : Option Colour}
    {before : Option Bool} (hold : colored s.cfg.profile s.fb x y = coloredAfter old before) :
    colored t.cfg.profile t.fb x y = coloredAfter (lastPaint x y old is) before := by
  induction is generalizing s old with
  | nil => cases h; exact hold
  | cons i is ih =>
    obtain ⟨u, hu, hrest⟩ := runInstrs_cons h
    rw [lastPaint_cons]
    refine ih ((exec_effect hu).inv hs) ?_ hrest (exec_colored hs hb hu hold)
    rwa [(exec_extends hu).cfg]

/-- Settles O19: it holds, by induction on the requests, each of which gives the pixel its own colour or none. -/
theorem pixelKeepsItsLastColour : Obligations.PixelKeepsItsLastColour := by
  unfold Obligations.PixelKeepsItsLastColour
  intro s t is x y hs hb h
  exact runInstrs_colored hs hb h (old := none) rfl

/-! ### What moves the bus -/

/-- From `s` to `t` the framer's lines have moved only by the events appended to `trace` (R66, R121, log 10). -/
structure BusFrame (s t : State) : Prop where
  history : ∃ es, t.trace = s.trace ++ es ∧ t.wire = s.wire ++ es.flatMap (eventWire s.cfg)
  lines : t.wire = s.wire → t.dc = s.dc ∧ t.csN = s.csN ∧ t.sclk = s.sclk ∧ t.mosi = s.mosi

theorem SeqFrame.busFrame {s t : State} (h : SeqFrame s t) : BusFrame s t := ⟨h.history, h.lines⟩

theorem BusFrame.refl (s : State) : BusFrame s s := (SeqFrame.refl s).busFrame

theorem BusFrame.respond {s t : State} (h : BusFrame s t) (c : ResultCode) (v : BitVec 16) :
    BusFrame s (t.respond c v) := ⟨h.history, h.lines⟩

theorem BusFrame.memWrite {s t : State} (h : BusFrame s t) (i : Nat) (v : Byte) : BusFrame s (t.memWrite i v) :=
  ⟨h.history, h.lines⟩

theorem BusFrame.memFill {s t : State} (h : BusFrame s t) (v : Byte) : BusFrame s (t.memFill v) :=
  ⟨h.history, h.lines⟩

theorem BusFrame.tx (s : State) (x : Tx) : BusFrame s (s.tx x) :=
  s.tx_eq_send x ▸ (SeqFrame.send s [x]).busFrame

theorem BusFrame.complete {s t : State} (h : BusFrame s t) (p : Phase) (v : BitVec 16) :
    BusFrame s (t.complete p v) := ⟨h.history, h.lines⟩

theorem BusFrame.abort {s t : State} (h : BusFrame s t) : BusFrame s t.abort := ⟨h.history, h.lines⟩

theorem BusFrame.endSequence {s t : State} (h : BusFrame s t) (ok : Bool) : BusFrame s (t.endSequence ok) := by
  obtain ⟨-, hend⟩ | ⟨-, -, hend⟩ | ⟨-, -, hend⟩ | ⟨-, hend⟩ | ⟨-, hend⟩ := t.endSequence_cases ok
  · exact hend ▸ h.complete _ _
  · exact hend ▸ h.complete _ _
  · exact hend ▸ h.abort
  · exact hend ▸ h.complete _ _
  · exact hend.symm ▸ h

/-- The beginning of a sequence moves no line. -/
theorem BusFrame.of_beginSequence {s t : State} {p : Phase} (h : BusFrame (s.beginSequence p) t) : BusFrame s t :=
  ⟨h.history, h.lines⟩

theorem BusFrame.of_beginWait {s t : State} {n : Nat} (h : BusFrame (s.beginWait n) t) : BusFrame s t :=
  ⟨h.history, h.lines⟩

/-- Every request moves the lines only by the events it appends. -/
theorem Effect.busFrame {s t : State} {i : Instr} (h : Effect s i t) : BusFrame s t := by
  cases h with
  | answered => exact (BusFrame.refl s).respond _ _
  | refusedSetup => exact (BusFrame.refl s).respond _ _
  | refusedDisplay => exact (BusFrame.refl s).respond _ _
  | painted => exact ((BusFrame.refl s).memWrite _ _).respond _ _
  | filled => exact ((BusFrame.refl s).memFill _).respond _ _
  | sentCmd => exact (BusFrame.tx _ _).respond _ _
  | sentData => exact (BusFrame.tx _ _).respond _ _
  | waited n u ok hpoll =>
    exact .of_beginWait (((SeqFrame.atStep _ _).trans hpoll.seqFrame).busFrame.endSequence ok)
  | ranSetup u _ hframe => exact hframe.busFrame.of_beginSequence.complete _ _
  | ranDisplay =>
    obtain ⟨u, ok, hframe, hrun⟩ := runSequence_frame (displaySteps s.cfg) (s.beginSequence .refreshing)
    exact hrun ▸ (hframe.busFrame.endSequence ok).of_beginSequence

/-- Only a transaction's event stands for line drives (R120). -/
theorem eventWire_of_not_busEvent (c : Config) {e : Event} (h : isBusEvent e = false) : eventWire c e = [] := by
  cases e with
  | cmd b => cases h
  | data b => cases h
  | _ => rfl

/-- Where no bus event was appended, neither the lines nor their history moved. -/
theorem BusFrame.unmoved {s t : State} (h : BusFrame s t)
    (hbus : t.trace.filter isBusEvent = s.trace.filter isBusEvent) :
    t.dc = s.dc ∧ t.csN = s.csN ∧ t.sclk = s.sclk ∧ t.mosi = s.mosi ∧ t.wire = s.wire := by
  obtain ⟨es, htrace, hwire⟩ := h.history
  have hnone : ∀ e ∈ es, isBusEvent e = false := by simpa [htrace] using hbus
  have hdrives : es.flatMap (eventWire s.cfg) = [] :=
    List.flatMap_eq_nil_iff.2 fun e he => eventWire_of_not_busEvent _ (hnone e he)
  have hwire : t.wire = s.wire := by rw [hwire, hdrives, List.append_nil]
  obtain ⟨hdc, hcs, hsclk, hmosi⟩ := h.lines hwire
  exact ⟨hdc, hcs, hsclk, hmosi, hwire⟩

theorem not_busEvent_of_gateEvent {e : Event} (h : isGateEvent e = true) : isBusEvent e = false := by
  cases e with
  | cmd b => cases h
  | data b => cases h
  | _ => rfl

/-- A gate sends nothing (R147). -/
theorem PollFrame.busEvents {s t : State} (h : PollFrame s t) :
    t.trace.filter isBusEvent = s.trace.filter isBusEvent := by
  obtain ⟨n, es, hgate, ht⟩ := h
  have hnone : es.filter isBusEvent = [] :=
    List.filter_eq_nil_iff.2 fun e he => by simp [not_busEvent_of_gateEvent (hgate e he)]
  rw [ht, List.filter_append, hnone, List.append_nil]

/-- The requests that do not send append no bus event (R105, R147). -/
theorem Effect.busEvents {s t : State} {i : Instr} (h : Effect s i t) (hsetup : i ≠ .setup)
    (hdisplay : i ≠ .display) (hcmd : ∀ b, i ≠ .cmd b) (hdata : ∀ b, i ≠ .data b) :
    t.trace.filter isBusEvent = s.trace.filter isBusEvent := by
  cases h with
  | answered => rfl
  | refusedSetup => exact absurd rfl hsetup
  | refusedDisplay => exact absurd rfl hdisplay
  | painted => rfl
  | filled => rfl
  | sentCmd b => exact absurd rfl (hcmd b)
  | sentData b => exact absurd rfl (hdata b)
  | waited n u ok hpoll =>
    obtain ⟨-, -, -, -, htrace, -⟩ := u.endSequence_frame ok
    rw [htrace]
    exact hpoll.busEvents
  | ranSetup => exact absurd rfl hsetup
  | ranDisplay => exact absurd rfl hdisplay

/-- Settles O55: it holds; line drives come with the bus events they stand for, and a gate has none. -/
theorem onlyTransactionsMoveTheBus : Obligations.OnlyTransactionsMoveTheBus := by
  unfold Obligations.OnlyTransactionsMoveTheBus
  refine ⟨fun s t i h => ?_, fun s t i h => ?_⟩
  · exact (exec_effect h).busFrame.unmoved
  · exact (exec_effect h).busEvents

end Sys2Proof.Machine
end

section
/-! PROOFS. The framer's statements: a stream is its transactions one after another, and CMD and DATA are one
transaction each (spec/41_channel.md). -/

namespace Sys2Proof.Machine

/-- The first transaction of a stream goes out on its own, and then the rest (R127). -/
theorem State.send_cons (s : State) (t : Tx) (ts : List Tx) : s.send (t :: ts) = (s.tx t).send ts := by
  rw [State.tx_eq_send, ← State.send_append, List.singleton_append]

/-- Settles O24: it holds, by induction on the stream; the first byte's transaction comes off its front. -/
theorem streamIsOneTransactionAByte : Obligations.StreamIsOneTransactionAByte := by
  unfold Obligations.StreamIsOneTransactionAByte
  intro ts
  induction ts with
  | nil => exact State.send_nil
  | cons t ts ih =>
    intro s
    rw [State.send_cons, ih, List.foldl_cons]

/-- One transaction, whole: `dc` at the kind's level, `cs_n` low around the eight bits, most significant first,
the bus idle after them, and the event (R121, R122, R123). -/
theorem State.send_singleton (s : State) (t : Tx) :
    s.send [t] = { s with
      dc := dcLevel s.cfg t.kind, csN := true, sclk := s.cfg.bus.sclkIdle, mosi := s.cfg.bus.mosiIdle
      trace := s.trace ++ [txEvent t]
      wire := s.wire ++ [.dc (dcLevel s.cfg t.kind), .csN false,
        .bit (t.byte.getLsbD 7), .bit (t.byte.getLsbD 6), .bit (t.byte.getLsbD 5), .bit (t.byte.getLsbD 4),
        .bit (t.byte.getLsbD 3), .bit (t.byte.getLsbD 2), .bit (t.byte.getLsbD 1), .bit (t.byte.getLsbD 0),
        .csN true] } := rfl

/-- Settles O22: it holds; CMD is the transaction of a command byte, and the answer OK, 0. -/
theorem cmdSendsOneFramedByte : Obligations.CmdSendsOneFramedByte := by
  unfold Obligations.CmdSendsOneFramedByte
  intro s b
  rw [exec_cmd, State.send_singleton]
  rfl

/-- Settles O23: it holds; DATA is the transaction of a data byte, and the answer OK, 0. -/
theorem dataSendsOneFramedByte : Obligations.DataSendsOneFramedByte := by
  unfold Obligations.DataSendsOneFramedByte
  intro s b
  rw [exec_data, State.send_singleton]
  rfl

end Sys2Proof.Machine
end

section
/-! PROOFS. The busy gate (spec/42_busygate.md R142 to R151): what one round of its poll loop does, and from it where
the gate ends, for either gate order and every draw of BUSY. -/

namespace Sys2Proof.Machine

open Sys2Proof.Claims

/-! ### Without a busy pin -/

/-- A gate writes its registers only where there is a pin (R142). -/
theorem State.openGate_of_noPin {s : State} (hpin : s.cfg.hasBusy = false) (t : Nat) : s.openGate t = s := by
  cases s
  simp_all [State.openGate]

theorem State.pollGate_of_noPin {s : State} (hpin : s.cfg.hasBusy = false) : s.pollGate = (true, s) := by
  simp [State.pollGate, hpin]

/-- Settles O28: it holds; neither the gate's beginning nor its poll does anything. -/
theorem gateWithoutBusyPinSucceedsAtOnce : Obligations.GateWithoutBusyPinSucceedsAtOnce := by
  unfold Obligations.GateWithoutBusyPinSucceedsAtOnce
  intro s t hpin
  rw [State.gate, State.openGate_of_noPin hpin, State.pollGate_of_noPin hpin]

/-! ### Samples as events -/

/-- Events that are no transaction do not move `dc` (R121). -/
theorem lastDc_of_not_busEvent {es : List Event} (h : ∀ e ∈ es, isBusEvent e = false) (c : Config) (old : Level) :
    lastDc c old es = old := by
  induction es with
  | nil => rfl
  | cons e es ih =>
    have hhead : isBusEvent e = false := h e List.mem_cons_self
    have hrest : lastDc c old es = old := ih fun e he => h e (List.mem_cons_of_mem _ he)
    cases e with
    | cmd b => cases hhead
    | data b => cases hhead
    | _ => exact hrest

/-- Events that are no transaction are appended to `trace` and move nothing (R37, R120). -/
theorem withEvents_of_not_busEvent {es : List Event} (h : ∀ e ∈ es, isBusEvent e = false) (s : State) :
    withEvents s es = { s with trace := s.trace ++ es } := by
  have hdrives : es.flatMap (eventWire s.cfg) = [] :=
    List.flatMap_eq_nil_iff.2 fun e he => eventWire_of_not_busEvent _ (h e he)
  rw [withEvents, lastDc_of_not_busEvent h, hdrives, List.append_nil]

theorem sampleEvents_not_busEvent (s : State) (t k n : Nat) : ∀ e ∈ sampleEvents s t k n, isBusEvent e = false := by
  intro e he
  obtain ⟨j, -, rfl⟩ := List.mem_map.1 he
  rfl

/-- The first sample comes off the front of a gate's samples. -/
theorem sampleEvents_succ (s : State) (t k n : Nat) :
    sampleEvents s t k (n + 1) = .sample t (s.upcomingBusy k) :: sampleEvents s (t + 10) (k + 1) n := by
  simp only [sampleEvents, List.range_succ_eq_map, List.map_cons, List.map_map]
  congr 1
  refine List.map_congr_left fun j _ => ?_
  have htime : t + 10 * (j + 1) = t + 10 + 10 * j := by omega
  have hindex : k + (j + 1) = k + 1 + j := by omega
  simp only [Function.comp_apply, Nat.succ_eq_add_one, htime, hindex]

/-! ### The rounds of the poll loop -/

/-- One round of the poll loop that reads busy: a sample, and the poll interval passes (R143). -/
def State.pollRound (s : State) : State := s.sampleBusy.delay Config.pollInterval

theorem State.upcomingBusy_pollRound (s : State) (j : Nat) : s.pollRound.upcomingBusy j = s.upcomingBusy (j + 1) :=
  s.upcomingBusy_sampleBusy_delay _ j

/-- After a round the gate is one poll interval older. -/
theorem State.pollRound_now {s : State} {i : Nat} (hnow : s.now = s.gateStart + 10 * i) :
    s.pollRound.now = s.pollRound.gateStart + 10 * (i + 1) := by
  have hlater : s.pollRound.now = s.now + 10 := rfl
  have hbegan : s.pollRound.gateStart = s.gateStart := rfl
  omega

theorem sampleEvents_pollRound (s : State) (t k n : Nat) :
    sampleEvents s.pollRound t k n = sampleEvents s t (k + 1) n := by
  refine List.map_congr_left fun j _ => ?_
  have hindex : k + j + 1 = k + 1 + j := by omega
  rw [State.upcomingBusy_pollRound, hindex]

/-- `s` after a gate's samples from now on, ten units apart, through the sample `m` (R144). -/
def State.sampledThrough (s : State) (m : Nat) : State :=
  atTime (afterSamples (withEvents s (sampleEvents s s.now 0 (m + 1))) (m + 1) (s.upcomingBusy m)) (s.now + 10 * m)

theorem State.sampledThrough_zero (s : State) : s.sampledThrough 0 = s.sampleBusy := by
  rw [State.sampledThrough, withEvents_of_not_busEvent (sampleEvents_not_busEvent _ _ _ _)]
  simp [atTime, afterSamples, State.sampleBusy, sampleEvents]

theorem State.sampledThrough_pollRound (s : State) (m : Nat) :
    s.pollRound.sampledThrough m = s.sampledThrough (m + 1) := by
  have hnow : s.now + 10 + 10 * m = s.now + 10 * (m + 1) := by omega
  have hsamples : s.samples + 1 + (m + 1) = s.samples + (m + 1 + 1) := by omega
  have htrace : s.trace ++ [.sample s.now (s.upcomingBusy 0)] ++ sampleEvents s (s.now + 10) 1 (m + 1)
      = s.trace ++ sampleEvents s s.now 0 (m + 1 + 1) := by
    rw [sampleEvents_succ s s.now, List.append_assoc, List.singleton_append]
  simp only [State.sampledThrough, withEvents_of_not_busEvent (sampleEvents_not_busEvent _ _ _ _),
    sampleEvents_pollRound, State.upcomingBusy_pollRound, ← htrace, ← hnow]
  simp [State.pollRound, atTime, afterSamples, State.sampleBusy, State.delay, Config.pollInterval, hsamples]

/-- A gate `10*i` units old has taken too long where `i` is past the limit's last multiple of the interval (R143). -/
theorem State.gateExpired_iff {s : State} {i : Nat} (hnow : s.now = s.gateStart + 10 * i) :
    s.gateExpired = true ↔ s.gateLimit / 10 < i := by
  rw [State.gateExpired, decide_eq_true_eq]
  omega

/-- A sample that reads not busy, up to the last, ends the loop (R143, R151). -/
theorem pollLoop_notBusy {o : GateOrder} {s : State} {i : Nat} (hnow : s.now = s.gateStart + 10 * i)
    (hi : i ≤ lastSample o s.gateLimit) (hbusy : s.upcomingBusy 0 = false) (n : Nat) :
    pollLoop o (n + 1) s = (true, s.sampleBusy) := by
  cases o with
  | timeoutFirst =>
    have hlive : ¬s.gateExpired = true := mt (State.gateExpired_iff hnow).1 (Nat.not_lt.2 hi)
    simp [pollLoop, hlive, hbusy]
  | sampleFirst => simp [pollLoop, hbusy]

/-- A sample that reads busy, not past the limit, takes the loop to its next round (R143, R151). -/
theorem pollLoop_busy (o : GateOrder) {s : State} (hlive : ¬s.gateExpired = true) (hbusy : s.upcomingBusy 0 = true)
    (n : Nat) : pollLoop o (n + 1) s = pollLoop o n s.pollRound := by
  cases o with
  | timeoutFirst => simp [pollLoop, hlive, hbusy, State.pollRound]
  | sampleFirst =>
    have hlive' : ¬s.sampleBusy.gateExpired = true := hlive
    simp [pollLoop, hlive', hbusy, State.pollRound]

/-- A last sample that reads busy, with the rounds a gate is given, ends the loop in the timeout, at the first
multiple of the interval past the limit (R143, R145, R151). -/
theorem pollLoop_lastBusy {o : GateOrder} {s : State} {i n : Nat} (hnow : s.now = s.gateStart + 10 * i)
    (hi : i = lastSample o s.gateLimit) (hn : s.gateLimit / 10 + 2 ≤ n + i) (hbusy : s.upcomingBusy 0 = true) :
    pollLoop o n s
      = (false, atTime s.sampleBusy.raiseBusyTimeout (s.gateStart + 10 * (s.gateLimit / 10 + 1))) := by
  cases o with
  | timeoutFirst =>
    obtain rfl : i = s.gateLimit / 10 := hi
    obtain ⟨n, rfl⟩ : ∃ m, n = m + 2 := ⟨n - 2, by omega⟩
    have hlive : ¬s.gateExpired = true := mt (State.gateExpired_iff hnow).1 (lt_irrefl _)
    have hnow' : s.pollRound.now = s.gateStart + 10 * (s.gateLimit / 10 + 1) := State.pollRound_now hnow
    have hexpired : s.pollRound.gateExpired = true :=
      (State.gateExpired_iff (s := s.pollRound) hnow').2 (Nat.lt_succ_self _)
    calc pollLoop .timeoutFirst (n + 2) s
        = pollLoop .timeoutFirst (n + 1) s.pollRound := pollLoop_busy _ hlive hbusy _
      _ = (false, s.pollRound.raiseBusyTimeout) := by simp [pollLoop, hexpired]
      _ = _ := by rw [← hnow']; rfl
  | sampleFirst =>
    obtain rfl : i = s.gateLimit / 10 + 1 := hi
    obtain ⟨n, rfl⟩ : ∃ m, n = m + 1 := ⟨n - 1, by omega⟩
    have hexpired : s.sampleBusy.gateExpired = true :=
      (State.gateExpired_iff (s := s.sampleBusy) hnow).2 (Nat.lt_succ_self _)
    calc pollLoop .sampleFirst (n + 1) s
        = (false, s.sampleBusy.raiseBusyTimeout) := by simp [pollLoop, hbusy, hexpired]
      _ = _ := by rw [← hnow]; rfl

/-! ### Where the poll loop ends -/

/-- Before the round of its last sample a gate has not taken too long (R144, R151). -/
theorem State.not_gateExpired {o : GateOrder} {s : State} {i : Nat} (hnow : s.now = s.gateStart + 10 * i)
    (hi : i < lastSample o s.gateLimit) : ¬s.gateExpired = true := by
  rw [State.gateExpired_iff hnow]
  cases o with
  | timeoutFirst => exact hi.not_gt
  | sampleFirst => exact (Nat.le_of_lt_succ hi).not_gt

theorem lastSample_le (o : GateOrder) (t : Nat) : lastSample o t ≤ t / 10 + 1 := by
  cases o with
  | timeoutFirst => exact Nat.le_succ _
  | sampleFirst => exact le_rfl

/-- From the start of its round `i`, the loop ends at the first sample that reads not busy (R143, R144, R151). -/
theorem pollLoop_firstNotBusy {o : GateOrder} {k : Nat} {s : State} {i n : Nat}
    (hnow : s.now = s.gateStart + 10 * i) (hi : i + k ≤ lastSample o s.gateLimit)
    (hn : s.gateLimit / 10 + 2 ≤ n + i) (hbusy : ∀ j < k, s.upcomingBusy j = true)
    (hfree : s.upcomingBusy k = false) : pollLoop o n s = (true, s.sampledThrough k) := by
  induction k generalizing s i n with
  | zero =>
    obtain ⟨n, rfl⟩ : ∃ m, n = m + 1 := ⟨n - 1, by have := lastSample_le o s.gateLimit; omega⟩
    rw [pollLoop_notBusy hnow hi hfree, State.sampledThrough_zero]
  | succ k ih =>
    obtain ⟨n, rfl⟩ : ∃ m, n = m + 1 := ⟨n - 1, by have := lastSample_le o s.gateLimit; omega⟩
    have hlive : ¬s.gateExpired = true := State.not_gateExpired (o := o) hnow (by omega)
    rw [pollLoop_busy o hlive (hbusy 0 (by omega)), ← State.sampledThrough_pollRound]
    have hi' : i + 1 + k ≤ lastSample o s.gateLimit := by omega
    have hn' : s.gateLimit / 10 + 2 ≤ n + (i + 1) := by omega
    exact ih (State.pollRound_now hnow) hi' hn'
      (fun j hj => (s.upcomingBusy_pollRound j).trans (hbusy (j + 1) (by omega)))
      ((s.upcomingBusy_pollRound k).trans hfree)

/-- From the start of its round `i`, where every sample to the last reads busy, the loop ends in the timeout
(R143, R145, R151). -/
theorem pollLoop_allBusy {o : GateOrder} {m : Nat} {s : State} {i n : Nat}
    (hnow : s.now = s.gateStart + 10 * i) (hi : i + m = lastSample o s.gateLimit)
    (hn : s.gateLimit / 10 + 2 ≤ n + i) (hbusy : ∀ j ≤ m, s.upcomingBusy j = true) :
    pollLoop o n s = (false,
      atTime (s.sampledThrough m).raiseBusyTimeout (s.gateStart + 10 * (s.gateLimit / 10 + 1))) := by
  induction m generalizing s i n with
  | zero => rw [pollLoop_lastBusy hnow hi hn (hbusy 0 le_rfl), State.sampledThrough_zero]
  | succ m ih =>
    obtain ⟨n, rfl⟩ : ∃ m, n = m + 1 := ⟨n - 1, by have := lastSample_le o s.gateLimit; omega⟩
    have hlive : ¬s.gateExpired = true := State.not_gateExpired (o := o) hnow (by omega)
    rw [pollLoop_busy o hlive (hbusy 0 (by omega)), ← State.sampledThrough_pollRound]
    have hi' : i + 1 + m = lastSample o s.gateLimit := by omega
    have hn' : s.gateLimit / 10 + 2 ≤ n + (i + 1) := by omega
    exact ih (State.pollRound_now hnow) hi' hn'
      fun j hj => (s.upcomingBusy_pollRound j).trans (hbusy (j + 1) (by omega))

/-! ### The gate with a busy pin -/

theorem State.openGate_of_pin {s : State} (hpin : s.cfg.hasBusy = true) (t : Nat) :
    s.openGate t = gateRegs s s.now t := by
  simp [State.openGate, gateRegs, hpin]

/-- A gate begun now has rounds for every sample and the timeout (R146, log 25). -/
theorem pollRounds_gateRegs (s : State) (t : Nat) : (gateRegs s s.now t).pollRounds = t / 10 + 2 := by
  simp [State.pollRounds, gateRegs, Config.pollInterval]

/-- A gate begun now ends at the first sample that reads not busy, if that is not past its last (R143). -/
theorem pollGate_firstNotBusy {s : State} {t k : Nat} (hpin : s.cfg.hasBusy = true)
    (hk : k ≤ lastSample s.cfg.gateOrder t) (hfirst : firstNotBusy s 0 k) :
    (gateRegs s s.now t).pollGate = (true,
      atTime (afterSamples (gateRegs (withEvents s (sampleEvents s s.now 0 (k + 1))) s.now t) (k + 1) false)
        (s.now + 10 * k)) := by
  obtain ⟨hbusy, -, hfree⟩ := hfirst
  have hloop := pollLoop_firstNotBusy (o := s.cfg.gateOrder) (s := gateRegs s s.now t) (i := 0) (k := k) rfl
    ((Nat.zero_add k).trans_le hk) (pollRounds_gateRegs s t).ge (fun j hj => hbusy j (Nat.zero_le j) hj) hfree
  rw [← hfree]
  exact (if_pos hpin).trans hloop

/-- The timeout's event follows the samples' (R149). -/
theorem atTime_raise_sampledThrough (s : State) (m t : Nat) :
    atTime (s.sampledThrough m).raiseBusyTimeout t
      = atTime (afterSamples (withEvents s (sampleEvents s s.now 0 (m + 1) ++ [.busyTimeout])) (m + 1)
          (s.upcomingBusy m)) t := by
  have hsamples := sampleEvents_not_busEvent s s.now 0 (m + 1)
  have hall : ∀ e ∈ sampleEvents s s.now 0 (m + 1) ++ [.busyTimeout], isBusEvent e = false := by
    simpa [or_imp, forall_and, isBusEvent] using hsamples
  rw [State.sampledThrough, withEvents_of_not_busEvent hsamples, withEvents_of_not_busEvent hall,
    ← List.append_assoc]
  rfl

/-- A gate begun now whose samples all read busy ends in the timeout (R145). -/
theorem pollGate_allBusy {s : State} {t : Nat} (hpin : s.cfg.hasBusy = true)
    (hbusy : ∀ j, j ≤ lastSample s.cfg.gateOrder t → s.upcomingBusy j = true) :
    (gateRegs s s.now t).pollGate = (false,
      atTime (afterSamples (gateRegs (withEvents s
          (sampleEvents s s.now 0 (lastSample s.cfg.gateOrder t + 1) ++ [.busyTimeout])) s.now t)
          (lastSample s.cfg.gateOrder t + 1) true)
        (s.now + 10 * (t / 10 + 1))) := by
  have hloop := pollLoop_allBusy (o := s.cfg.gateOrder) (s := gateRegs s s.now t) (i := 0) rfl
    (Nat.zero_add _) (pollRounds_gateRegs s t).ge hbusy
  rw [atTime_raise_sampledThrough] at hloop
  rw [← hbusy _ le_rfl]
  exact (if_pos hpin).trans hloop

/-- Settles O26: it holds; every round before the sample's reads busy and goes on. -/
theorem gateSucceedsAtTheFirstNotBusySample : Obligations.GateSucceedsAtTheFirstNotBusySample := by
  unfold Obligations.GateSucceedsAtTheFirstNotBusySample
  intro s t k hpin hk hfirst
  rw [State.gate, State.openGate_of_pin hpin, pollGate_firstNotBusy hpin hk hfirst]

/-- Settles O27: it holds; every round to the last reads busy, and the limit has passed after it. -/
theorem gateTimesOutWhenEverySampleIsBusy : Obligations.GateTimesOutWhenEverySampleIsBusy := by
  unfold Obligations.GateTimesOutWhenEverySampleIsBusy
  intro s t hpin hbusy
  rw [State.gate, State.openGate_of_pin hpin, pollGate_allBusy hpin hbusy]

/-! ### WAIT -/

/-- WAIT's gate sees an engine that is WAITING, at the poll, to go back to its phase (R147). -/
def State.heldWaiting (s : State) : State :=
  { s with phase := .waiting, gateReturn := s.phase, seqStep := some .waitPoll }

/-- A yes-or-no answer, as a whole response word (R78). -/
theorem responseWord_boolValue (b : Bool) : responseWord .ok (boolValue b) = if b then 1#32 else 0#32 := by
  cases b <;> decide

/-- WAIT is its gate, and then its end: back to its phase, with the gate's answer (R147). -/
theorem exec_wait {s u : State} {t : Nat} {ok : Bool} (hnone : s.seqStep = none)
    (hgate : s.heldWaiting.gate t = (ok, u)) :
    exec (.wait t) s = .next
      { u with phase := s.phase, seqStep := s.seqStep, response := some (if ok then 1#32 else 0#32) } := by
  have hframe : SeqFrame s.heldWaiting u := by
    have hpoll := (s.heldWaiting.openGate t).pollGate_frame.seqFrame
    rw [← State.gate, hgate] at hpoll
    exact (SeqFrame.openGate _ t).trans hpoll
  have hphase : u.phase = .waiting := hframe.phase
  have hreturn : u.gateReturn = s.phase := hframe.gateReturn
  have hstep : runStep .waitPoll ((s.beginWait t).atStep .waitPoll) = (ok, u) := hgate
  have hrun : runSequence waitSteps (s.beginWait t) = u.endSequence ok := by
    cases ok with
    | true => exact runSequence_goes_on hstep
    | false => exact runSequence_ends hstep
  calc exec (.wait t) s
      = .next (runSequence waitSteps (s.beginWait t)) := rfl
    _ = .next (u.complete s.phase (boolValue ok)) := by simp [hrun, State.endSequence, hphase, hreturn]
    _ = _ := by rw [State.complete, responseWord_boolValue, hnone]

/-- Settles O29: it holds; WAIT's answer is its gate's, and the gate keeps to the registers of BUSY and time. -/
theorem waitAnswersWhatItsGateSaw : Obligations.WaitAnswersWhatItsGateSaw := by
  unfold Obligations.WaitAnswersWhatItsGateSaw
  intro s t k _ hnone
  refine ⟨fun hpin => ?_, fun hpin hk hfirst => ?_, fun hpin hbusy => ?_⟩
  · exact exec_wait hnone (gateWithoutBusyPinSucceedsAtOnce s.heldWaiting t hpin)
  · exact exec_wait hnone (gateSucceedsAtTheFirstNotBusySample s.heldWaiting t k hpin hk hfirst)
  · exact exec_wait hnone (gateTimesOutWhenEverySampleIsBusy s.heldWaiting t hpin hbusy)

end Sys2Proof.Machine
end

section
/-! PROOFS. DISPLAY's sequence by its parts (spec/43_refresh.md R165 to R179): a stream between transactions in the
claims' words, the traffic of each sub-step, what each run of sub-steps between two gates leaves, and from these
a DISPLAY without a busy pin (spec/42_busygate.md R142). -/

namespace Sys2Proof.Machine

open Sys2Proof.Claims

/-! ### Streams as events -/

/-- Between transactions `cs_n` is 1 and `sclk` and `mosi` are idle (R130). -/
def BusAtRest (s : State) : Prop :=
  s.csN = true ∧ s.sclk = s.cfg.bus.sclkIdle ∧ s.mosi = s.cfg.bus.mosiIdle

/-- `dc` has the level of the last transaction (R121, R124). -/
theorem lastDc_map_txEvent (c : Config) (ts : List Tx) (old : Level) :
    lastDc c old (ts.map txEvent) = (ts.getLast?.map (fun t => dcLevel c t.kind)).getD old := by
  induction ts generalizing old with
  | nil => rfl
  | cons t ts ih =>
    have hhead : lastDc c old ((t :: ts).map txEvent) = lastDc c (dcLevel c t.kind) (ts.map txEvent) := by
      obtain ⟨kind, b⟩ := t
      cases kind <;> rfl
    rw [hhead, ih, List.getLast?_cons]
    cases ts.getLast? <;> rfl

/-- A stream sent between transactions is its events, and leaves the bus at rest (R121, R127, R130). -/
theorem State.send_eq_withEvents {s : State} (hbus : BusAtRest s) (ts : List Tx) :
    s.send ts = withEvents s (ts.map txEvent) := by
  obtain ⟨hcs, hsclk, hmosi⟩ := hbus
  rw [withEvents, lastDc_map_txEvent, flatMap_eventWire_txEvent, State.send, ← hsclk, ← hmosi, ← hcs]
  simp only [afterStream_idle]

/-- A command byte and its data bytes, as events (R127). -/
theorem commandTxs_events (code : Byte) (ds : List Byte) :
    (commandTxs code ds).map txEvent = commandEvents code ds := by
  simp only [commandTxs, commandEvents, List.map_cons, List.map_map]
  rfl

/-! ### The traffic of strategy A -/

/-- What the LUT mode dispatch sends (R167, R168). -/
theorem dispatchTxs_events (c : Config) (counter : BitVec 32) :
    (dispatchTxs c counter).map txEvent = lutEvents c counter.toNat := by
  by_cases hN : 2 ≤ c.fullUpdateEvery.toNat
  · by_cases hfull : counter.toNat = 0
    · simp [dispatchTxs, lutEvents, writeLutTxs, commandTxs_events, lutSwitching, fullDue, prevFull, hN, hfull]
    · by_cases hprev : counter.toNat = 1
      · simp [dispatchTxs, lutEvents, writeLutTxs, commandTxs_events, lutSwitching, fullDue, prevFull, hN, hprev]
      · simp [dispatchTxs, lutEvents, lutSwitching, fullDue, prevFull, hN, hfull, hprev]
  · simp [dispatchTxs, lutEvents, lutSwitching, hN]

/-- The counter's advance, in the claims' words (R167). -/
theorem dispatchCounter_eq (c : Config) (counter : BitVec 32) :
    dispatchCounter c counter = counterAfter c counter := by
  simp [dispatchCounter, counterAfter, lutSwitching, nextCounter]

/-- The Y window end goes out low byte first (R169, decision D13). -/
theorem yWindowEnd_bytes (p : Profile) :
    (yWindowEnd p).extractLsb' 0 8 = BitVec.ofNat 8 (p.height - 1)
      ∧ (yWindowEnd p).extractLsb' 8 8 = BitVec.ofNat 8 ((p.height - 1) / 256) := by
  constructor
  · apply BitVec.eq_of_toNat_eq
    simp [yWindowEnd]
  · apply BitVec.eq_of_toNat_eq
    simp only [yWindowEnd, BitVec.extractLsb'_toNat, BitVec.toNat_ofNat]
    omega

theorem windowTxs_counterTxs_events (c : Config) : (windowTxs c ++ counterTxs c).map txEvent = windowEvents c := by
  obtain ⟨hlow, hhigh⟩ := yWindowEnd_bytes c.profile
  simp only [windowTxs, counterTxs, windowEvents, List.map_append, commandTxs_events, hlow, hhigh, xWindowEnd,
    List.append_assoc]
  rfl

theorem ramTxs_updateTxs_events (c : Config) (m : Memory) :
    (ramTxs c m ++ updateTxs c).map txEvent = frameEventsA c m.bytes := by
  simp only [ramTxs, updateTxs, frameEventsA, List.map_append, commandTxs_events, List.append_assoc]
  rfl

/-! ### The traffic of strategies B and B75 -/

/-- A plane is the framebuffer byte by byte, each doubled for B75 (R176, R177). -/
theorem planeBytes_eq (c : Config) (m : Memory) : planeBytes c m = m.bytes.flatMap (planeByte c) := by
  have hplain (h : c.profile.strategy ≠ .b75) : m.bytes = m.bytes.flatMap (planeByte c) := by
    have hbyte : planeByte c = fun v => [v] := funext fun v => if_neg h
    rw [hbyte, List.flatMap_singleton']
  unfold planeBytes
  cases h : c.profile.strategy with
  | a => exact hplain (by simp [h])
  | b => exact hplain (by simp [h])
  | b75 =>
    have hbyte : planeByte c = expandByte c.toneOn := funext fun v => if_pos h
    rw [hbyte]

theorem planeTxs_events (c : Config) (code : Byte) (m : Memory) :
    (planeTxs c code m).map txEvent = commandEvents code (m.bytes.flatMap (planeByte c)) := by
  rw [planeTxs, commandTxs_events, planeBytes_eq]

/-- The transactions of strategies B and B75: one plane or two, and the refresh command (R175, R176, R179). -/
def frameTxsB (c : Config) (m : Memory) : List Tx :=
  planeTxs c c.cmdCode.dataTx1 m
    ++ (if c.profile.strategy = .b75 ∧ c.b75Planes = .one then [] else planeTxs c c.cmdCode.dataTx2 m)
    ++ [cmdTx c.cmdCode.displayRefresh]

theorem frameTxsB_events (c : Config) (m : Memory) : (frameTxsB c m).map txEvent = frameEventsB c m.bytes := by
  rw [frameTxsB, frameEventsB, List.map_append, List.map_append, planeTxs_events, apply_ite (List.map txEvent),
    planeTxs_events]
  rfl

/-! ### The parts of the sequence -/

theorem lastDc_append (c : Config) (old : Level) (es fs : List Event) :
    lastDc c old (es ++ fs) = lastDc c (lastDc c old es) fs := by
  induction es generalizing old with
  | nil => rfl
  | cons e es ih => cases e <;> exact ih _

/-- Events after events are one list of events (R37, R66). -/
theorem withEvents_append (s : State) (es fs : List Event) :
    withEvents (withEvents s es) fs = withEvents s (es ++ fs) := by
  simp only [withEvents, lastDc_append, List.flatMap_append, List.append_assoc]

/-- Without a busy pin a gate of DISPLAY, the sub-steps `k` and `poll`, only leaves its step index (R142). -/
theorem runSequence_gate_of_noPin {k poll : SeqStep} (ks : List SeqStep)
    (hopen : ∀ s, runStep k s = (true, s.openGate Config.waitTimeout))
    (hpoll : ∀ s, runStep poll s = s.pollGate) {s : State} (hpin : s.cfg.hasBusy = false) :
    runSequence ([k, poll] ++ ks) s = runSequence ks (s.atStep poll) := by
  have hopen' : runStep k (s.atStep k) = (true, s.atStep k) := by
    rw [hopen, State.openGate_of_noPin (s := s.atStep k) hpin]
  have hpoll' : runStep poll ((s.atStep k).atStep poll) = (true, s.atStep poll) :=
    (hpoll _).trans (State.pollGate_of_noPin (s := s.atStep poll) hpin)
  exact (runSequence_goes_on hopen').trans (runSequence_goes_on hpoll')

/-- Between strategy A's gates: the LUT mode dispatch, the window and the counters (R167 to R170). -/
theorem runPart_dispatchAndWindow {s : State} (hbus : BusAtRest s) :
    runPart [.a2, .a3] s = some
      { withEvents s (lutEvents s.cfg s.modeCounter.toNat ++ windowEvents s.cfg) with
        modeCounter := counterAfter s.cfg s.modeCounter, seqStep := some .a3 } := by
  calc runPart [.a2, .a3] s
      = some (((s.atStep .a2).dispatchLut.atStep .a3).send (windowTxs s.cfg ++ counterTxs s.cfg)) := rfl
    _ = some { s.send (dispatchTxs s.cfg s.modeCounter ++ (windowTxs s.cfg ++ counterTxs s.cfg)) with
          modeCounter := dispatchCounter s.cfg s.modeCounter, seqStep := some .a3 } := by
        rw [s.send_append]; rfl
    _ = _ := by
        rw [State.send_eq_withEvents hbus, List.map_append, dispatchTxs_events, windowTxs_counterTxs_events,
          dispatchCounter_eq]

/-- The end of a DISPLAY that went through (R165). -/
theorem State.endSequence_refreshed {s : State} (hphase : s.phase = .refreshing) :
    s.endSequence true = idleAfter s 1#16 := by
  simp [State.endSequence, hphase, State.complete, idleAfter]

/-- After strategy A's second gate: the frame, the commands after it, and NOMINAL (R172 to R174). -/
theorem runSequence_frameAndUpdate {s : State} (hphase : s.phase = .refreshing) (hbus : BusAtRest s) :
    runSequence [.a5, .a6, .a7] s
      = idleAfter { withEvents s (frameEventsA s.cfg s.fb.bytes) with status := .nominal } 1#16 := by
  have hsent : (s.send (ramTxs s.cfg s.fb)).send (updateTxs s.cfg) = withEvents s (frameEventsA s.cfg s.fb.bytes) := by
    rw [← State.send_append, State.send_eq_withEvents hbus, ramTxs_updateTxs_events]
  calc runSequence [.a5, .a6, .a7] s
      = ({ (s.send (ramTxs s.cfg s.fb)).send (updateTxs s.cfg) with
          status := .nominal, seqStep := some .a7 } : State).endSequence true := rfl
    _ = _ := by rw [hsent]; exact State.endSequence_refreshed hphase

/-- Strategy A's sub-steps, by its gates (R166, R171). -/
theorem displaySteps_a {c : Config} (h : c.profile.strategy = .a) :
    displaySteps c = [.a1, .a1Poll] ++ ([.a2, .a3] ++ ([.a4, .a4Poll] ++ [.a5, .a6, .a7])) := by
  rw [displaySteps, h]
  rfl

/-- The sub-steps of strategies B and B75 after their gate (R175). -/
def planeSteps (c : Config) : List SeqStep :=
  if c.profile.strategy = .b75 ∧ c.b75Planes = .one then [.b2, .b4, .b5] else [.b2, .b3, .b4, .b5]

theorem displaySteps_b {c : Config} (h : c.profile.strategy ≠ .a) :
    displaySteps c = [.b1, .b1Poll] ++ planeSteps c := by
  unfold displaySteps planeSteps
  cases hstrategy : c.profile.strategy with
  | a => exact absurd hstrategy h
  | b => rfl
  | b75 => cases c.b75Planes <;> rfl

/-- Those sub-steps are one stream, and NOMINAL after it. -/
theorem runSequence_planeSteps_eq (s : State) :
    runSequence (planeSteps s.cfg) s
      = ({ s.send (frameTxsB s.cfg s.fb) with status := .nominal, seqStep := some .b5 } : State).endSequence true := by
  unfold planeSteps frameTxsB
  split
  · rw [List.append_nil, State.send_append]
    rfl
  · rw [State.send_append, State.send_append]
    rfl

/-- After the gate of strategies B and B75: the planes, the refresh command, and NOMINAL (R176 to R179). -/
theorem runSequence_planeSteps {s : State} (hphase : s.phase = .refreshing) (hbus : BusAtRest s) :
    runSequence (planeSteps s.cfg) s
      = idleAfter { withEvents s (frameEventsB s.cfg s.fb.bytes) with status := .nominal } 1#16 := by
  rw [runSequence_planeSteps_eq, State.send_eq_withEvents hbus, frameTxsB_events]
  exact State.endSequence_refreshed hphase

/-- DISPLAY after SETUP is its sequence (R165). -/
theorem exec_display {s : State} (hphase : s.phase = .idle) :
    exec .display s = .next (runSequence (displaySteps s.cfg) (s.beginSequence .refreshing)) :=
  if_neg (by simp [hphase])

/-! ### DISPLAY without a busy pin -/

/-- Settles O33: it holds; both gates are true at once, and the parts between and after them send their traffic. -/
theorem displayAWithoutBusyPinStreamsTheFrame : Obligations.DisplayAWithoutBusyPinStreamsTheFrame := by
  unfold Obligations.DisplayAWithoutBusyPinStreamsTheFrame
  intro s hinv hphase hstrategy hpin
  have hbus : BusAtRest s := hinv.busIdle
  have hmiddle := runPart_dispatchAndWindow (s := (s.beginSequence .refreshing).atStep .a1Poll) hbus
  have hevents := withEvents_append s (lutEvents s.cfg s.modeCounter.toNat ++ windowEvents s.cfg)
    (frameEventsA s.cfg s.fb.bytes)
  rw [exec_display hphase, displaySteps_a hstrategy,
    runSequence_gate_of_noPin (k := .a1) (poll := .a1Poll) _ (fun _ => rfl) (fun _ => rfl),
    runSequence_append _ hmiddle,
    runSequence_gate_of_noPin (k := .a4) (poll := .a4Poll) _ (fun _ => rfl) (fun _ => rfl),
    runSequence_frameAndUpdate, ← hevents]
  · rfl
  · rfl
  · exact hbus
  · exact hpin
  · exact hpin

/-- Settles O39: it holds; the gate is true at once, and the sub-steps after it send the planes. -/
theorem displayBWithoutBusyPinStreamsItsPlanes : Obligations.DisplayBWithoutBusyPinStreamsItsPlanes := by
  unfold Obligations.DisplayBWithoutBusyPinStreamsItsPlanes
  intro s hinv hphase hstrategy hpin
  have hbus : BusAtRest s := hinv.busIdle
  have hrest := runSequence_planeSteps (s := (s.beginSequence .refreshing).atStep .b1Poll) rfl hbus
  rw [exec_display hphase, displaySteps_b hstrategy,
    runSequence_gate_of_noPin (k := .b1) (poll := .b1Poll) _ (fun _ => rfl) (fun _ => rfl)]
  · exact congrArg _ hrest
  · exact hpin

end Sys2Proof.Machine
end

section
/-! PROOFS. SETUP, the phases and the 7.5" transform (spec/43_refresh.md R160 to R164, R177): where each request leaves
the phase, the reset pulse and the scripts that follow it, and the bytes of a doubled bit pair. -/

namespace Sys2Proof.Machine

open Sys2Proof.Claims

/-! ### Where a request leaves the phase -/

/-- SETUP is taken in UNINIT and leaves for IDLE; every other request comes back (R147, R160). -/
theorem Effect.phase {s t : State} {i : Instr} (h : Effect s i t) (hready : s.portReady = true) :
    t.phase = if i = .setup ∧ s.phase = .uninit then .idle else s.phase := by
  cases h with
  | answered i c v hi => exact (if_neg (mt And.left hi.1)).symm
  | refusedSetup hsetUp => exact (if_neg (mt And.right hsetUp)).symm
  | refusedDisplay => exact (if_neg nofun).symm
  | painted => exact (if_neg nofun).symm
  | filled => exact (if_neg nofun).symm
  | sentCmd => simp [State.tx_eq_send]
  | sentData => simp [State.tx_eq_send]
  | waited n u ok hpoll =>
    have hphase : u.phase = .waiting := hpoll.seqFrame.phase
    have hreturn : u.gateReturn = s.phase := hpoll.seqFrame.gateReturn
    have hend : u.endSequence ok = u.complete s.phase (boolValue ok) := by
      simp [State.endSequence, hphase, hreturn]
    exact hend ▸ (if_neg nofun).symm
  | ranSetup u hfresh => exact (if_pos ⟨rfl, hfresh⟩).symm
  | ranDisplay hsetUp =>
    have hidle : s.phase = .idle := (s.portReady_iff.1 hready).resolve_left hsetUp
    obtain ⟨u, ok, hframe, hrun⟩ := runSequence_frame (displaySteps s.cfg) (s.beginSequence .refreshing)
    have hphase : u.phase = .refreshing := hframe.phase
    have hend : (u.endSequence ok).phase = .idle := by
      rw [State.endSequence, hphase]
      cases ok <;> rfl
    rw [hrun, hend, hidle]
    exact (if_neg nofun).symm

/-- Settles O53: it holds, by the effects of the requests. -/
theorem phaseMovesOnlyAsStated : Obligations.PhaseMovesOnlyAsStated := by
  unfold Obligations.PhaseMovesOnlyAsStated
  intro s t i hready h
  exact (exec_effect h).phase hready

/-! ### SETUP -/

/-- SETUP's sub-steps, by the pulse and the scripts (R161). -/
theorem setupSteps_eq (c : Config) :
    setupSteps c = (if c.hasReset then [.pulseLow, .pulseHigh] else []) ++ [.initScript, .setupLuts] := by
  unfold setupSteps
  split <;> rfl

/-- Settles O56: it holds; each half of the pulse drives RST and lets 200 units pass. -/
theorem resetPulseHoldsEachLevelFor200 : Obligations.ResetPulseHoldsEachLevelFor200 := by
  unfold Obligations.ResetPulseHoldsEachLevelFor200
  refine ⟨setupSteps_eq, fun s => rfl, fun s => rfl, fun s _ => ?_⟩
  have htrace : s.trace ++ [.rst false] ++ [.rst true] = s.trace ++ [.rst false, .rst true] :=
    List.append_assoc _ _ _
  rw [← htrace]
  rfl

theorem scriptTxs_events (cs : List Command) : (scriptTxs cs).map txEvent = scriptEvents cs := by
  simp only [scriptTxs, scriptEvents, List.map_flatMap, commandTxs_events]

/-- After the pulse, SETUP sends the init script and the setup LUTs, and completes (R161, R163, R164). -/
theorem runSequence_scripts {s : State} (hphase : s.phase = .setup) (hbus : BusAtRest s) :
    runSequence [.initScript, .setupLuts] s
      = idleAfter (withEvents s
          (scriptEvents s.cfg.profile.initScript ++ scriptEvents s.cfg.profile.setupLuts)) 0#16 := by
  have hsent : (s.send (scriptTxs s.cfg.profile.initScript)).send (scriptTxs s.cfg.profile.setupLuts)
      = withEvents s (scriptEvents s.cfg.profile.initScript ++ scriptEvents s.cfg.profile.setupLuts) := by
    rw [← State.send_append, State.send_eq_withEvents hbus, List.map_append, scriptTxs_events, scriptTxs_events]
  calc runSequence [.initScript, .setupLuts] s
      = ({ (s.send (scriptTxs s.cfg.profile.initScript)).send (scriptTxs s.cfg.profile.setupLuts) with
          seqStep := some .setupLuts } : State).endSequence true := rfl
    _ = _ := by
        rw [hsent]
        simp [State.endSequence, withEvents, hphase, State.complete, idleAfter]

/-- The pulse, on an engine with RST released: its two events and 400 units (R162). -/
theorem runPart_pulse {s : State} (hpin : s.cfg.hasReset = true) (hrst : s.rstN = true) :
    runPart [.pulseLow, .pulseHigh] (s.beginSequence .setup) = some
      { atTime (withEvents s [.rst false, .rst true]) (s.now + 400) with
        phase := .setup, seqStep := some .pulseHigh } := by
  obtain ⟨-, -, -, hpulse⟩ := resetPulseHoldsEachLevelFor200
  rw [hpulse s hpin]
  simp [atTime, withEvents, lastDc, eventWire, hrst]

/-- Settles O30: it holds; the pulse, if there is a pin, and then the two scripts, between transactions. -/
theorem setupRunsPulseScriptAndLuts : Obligations.SetupRunsPulseScriptAndLuts := by
  unfold Obligations.SetupRunsPulseScriptAndLuts
  intro s hinv hphase
  have hexec : exec .setup s = .next (runSequence (setupSteps s.cfg) (s.beginSequence .setup)) := if_pos hphase
  rw [hexec, setupSteps_eq]
  cases hpin : s.cfg.hasReset with
  | true =>
    have hpulse := runPart_pulse hpin hinv.resetReleased
    have hevents := withEvents_append s [.rst false, .rst true]
      (scriptEvents s.cfg.profile.initScript ++ scriptEvents s.cfg.profile.setupLuts)
    rw [if_pos rfl, runSequence_append _ hpulse, if_pos rfl, if_pos rfl, List.append_assoc, ← hevents]
    exact congrArg _ (runSequence_scripts rfl hinv.busIdle)
  | false =>
    have hscripts := runSequence_scripts (s := s.beginSequence .setup) rfl hinv.busIdle
    exact congrArg _ hscripts

/-! ### The 7.5" transform -/

theorem expandByte_eq_map (tone : BitVec 4) (v : Byte) :
    expandByte tone v = (List.range 4).map (expandPair tone v) := rfl

/-- A pair's byte gives back the nibbles of its two bits (R177). -/
theorem expandPair_nibbles (tone : BitVec 4) (v : Byte) (k : Nat) :
    (expandPair tone v k).extractLsb' 4 4 = toneNibble tone (v.getLsbD (7 - 2 * k))
      ∧ (expandPair tone v k).extractLsb' 0 4 = toneNibble tone (v.getLsbD (6 - 2 * k)) :=
  ⟨BitVec.extractLsb'_append_eq_left, BitVec.extractLsb'_append_eq_right⟩

/-- With `TONE_ON = 0x3` a pair's byte is one of four, by its two bits (R177). -/
theorem expandPair_three_mem (v : Byte) (k : Nat) :
    expandPair 0x3#4 v k ∈ [0x00#8, 0x03#8, 0x30#8, 0x33#8] := by
  unfold expandPair
  cases v.getLsbD (7 - 2 * k) <;> cases v.getLsbD (6 - 2 * k) <;> decide

/-- Settles O41: it holds; the four bytes are the pairs of bits, each read back nibble by nibble. -/
theorem expandByteDoublesEachBit : Obligations.ExpandByteDoublesEachBit := by
  unfold Obligations.ExpandByteDoublesEachBit
  refine ⟨fun tone v => ⟨rfl, fun k => ?_⟩, fun v e he => ?_, by decide⟩
  · refine ⟨expandPair tone v k, ?_, expandPair_nibbles tone v k⟩
    rw [expandByte_eq_map, List.getElem?_map, List.getElem?_range k.isLt]
    rfl
  · rw [expandByte_eq_map] at he
    obtain ⟨k, -, rfl⟩ := List.mem_map.1 he
    exact expandPair_three_mem v k

end Sys2Proof.Machine
end

section
/-! PROOFS. DISPLAY with a busy pin (spec/43_refresh.md R165 to R179, spec/60_exceptions.md R207): a gate's two
outcomes, what each does to the sequence it stands in, and from these every way a DISPLAY ends. Where a nest of
updates is compared field by field, `cases s` comes before `rfl`: it keeps `rfl` from comparing the nests whole. -/

namespace Sys2Proof.Machine

open Sys2Proof.Claims

/-! ### A gate's two outcomes -/

/-- `s` after a gate of `t` units whose sample `k` was the first to read not busy (R143, R144). -/
def State.gateSucceeded (s : State) (t k : Nat) : State :=
  atTime (afterSamples (gateRegs (withEvents s (sampleEvents s s.now 0 (k + 1))) s.now t) (k + 1) false)
    (s.now + 10 * k)

/-- `s` after a gate of `t` units whose samples all read busy (R145, R149). -/
def State.gateTimedOut (s : State) (t : Nat) : State :=
  atTime (afterSamples (gateRegs (withEvents s
      (sampleEvents s s.now 0 (lastSample s.cfg.gateOrder t + 1) ++ [.busyTimeout])) s.now t)
      (lastSample s.cfg.gateOrder t + 1) true)
    (s.now + 10 * (t / 10 + 1))

@[simp] theorem State.gateSucceeded_cfg (s : State) (t k : Nat) : (s.gateSucceeded t k).cfg = s.cfg := by
  cases s
  rfl

theorem State.gate_succeeds {s : State} {t k : Nat} (hpin : s.cfg.hasBusy = true)
    (hk : k ≤ lastSample s.cfg.gateOrder t) (hfirst : firstNotBusy s 0 k) :
    s.gate t = (true, s.gateSucceeded t k) :=
  gateSucceedsAtTheFirstNotBusySample s t k hpin hk hfirst

theorem State.gate_timesOut {s : State} {t : Nat} (hpin : s.cfg.hasBusy = true)
    (hbusy : ∀ j, j ≤ lastSample s.cfg.gateOrder t → s.upcomingBusy j = true) :
    s.gate t = (false, s.gateTimedOut t) :=
  gateTimesOutWhenEverySampleIsBusy s t hpin hbusy

/-- Up to a gate's last sample, either one is the first to read not busy or all read busy (R141). -/
theorem exists_firstNotBusy_or_allBusy (s : State) (m : Nat) :
    (∃ k, k ≤ m ∧ firstNotBusy s 0 k) ∨ ∀ j, j ≤ m → s.upcomingBusy j = true := by
  by_cases h : ∃ k, s.upcomingBusy k = false ∧ k ≤ m
  · obtain ⟨hfree, hle⟩ := Nat.find_spec h
    refine .inl ⟨Nat.find h, hle, fun j _ hj => ?_, Nat.zero_le _, hfree⟩
    by_contra hne
    exact Nat.find_min h hj ⟨Bool.eq_false_of_not_eq_true hne, hj.le.trans hle⟩
  · exact .inr fun j hj => by_contra fun hne => h ⟨j, Bool.eq_false_of_not_eq_true hne, hj⟩

/-- A gate that fails has raised the timeout last (R145, R149). -/
theorem State.gate_false_raises {s : State} {t : Nat} (h : (s.gate t).1 = false) :
    (s.gate t).2.trace.getLast? = some .busyTimeout := by
  cases hpin : s.cfg.hasBusy with
  | true => exact State.pollGate_false_raises (s.openGate t) (by simp [hpin]) h
  | false =>
    rw [gateWithoutBusyPinSucceedsAtOnce s t hpin] at h
    cases h

/-! ### The gates of DISPLAY -/

/-- Two sub-steps are a gate of the engine's own: it begins, and polls (R166, R171, R175). -/
def IsGate (k poll : SeqStep) : Prop :=
  (∀ s, runStep k s = (true, s.openGate Config.waitTimeout)) ∧ ∀ s, runStep poll s = s.pollGate

theorem isGate_a1 : IsGate .a1 .a1Poll := ⟨fun _ => rfl, fun _ => rfl⟩

theorem isGate_a4 : IsGate .a4 .a4Poll := ⟨fun _ => rfl, fun _ => rfl⟩

theorem isGate_b1 : IsGate .b1 .b1Poll := ⟨fun _ => rfl, fun _ => rfl⟩

/-- The two sub-steps of a gate are `gate(1000)` at the poll's index (R140). -/
theorem IsGate.runSequence_eq {k poll : SeqStep} (h : IsGate k poll) (ks : List SeqStep) (s : State) :
    runSequence ([k, poll] ++ ks) s =
      if ((s.atStep poll).gate Config.waitTimeout).1 then
        runSequence ks ((s.atStep poll).gate Config.waitTimeout).2
      else ((s.atStep poll).gate Config.waitTimeout).2.endSequence false := by
  obtain ⟨hopen, hpoll⟩ := h
  have hgate : runStep poll (((s.atStep k).openGate Config.waitTimeout).atStep poll)
      = (s.atStep poll).gate Config.waitTimeout := hpoll _
  have hrest := runSequence_goes_on (ks := poll :: ks) (hopen (s.atStep k))
  rcases hr : (s.atStep poll).gate Config.waitTimeout with ⟨ok, u⟩
  rw [hr] at hgate
  cases ok with
  | true => exact hrest.trans (runSequence_goes_on hgate)
  | false => exact hrest.trans (runSequence_ends hgate)

/-- A gate that sees the panel not busy lets the sequence go on. -/
theorem IsGate.goes_on {k poll : SeqStep} (h : IsGate k poll) (ks : List SeqStep) {s : State} {n : Nat}
    (hpin : s.cfg.hasBusy = true) (hn : n ≤ lastSample s.cfg.gateOrder Config.waitTimeout)
    (hfirst : firstNotBusy s 0 n) :
    runSequence ([k, poll] ++ ks) s = runSequence ks ((s.gateSucceeded Config.waitTimeout n).atStep poll) := by
  rw [h.runSequence_eq, State.gate_succeeds (s := s.atStep poll) hpin hn hfirst]
  rfl

/-- A gate that times out inside DISPLAY ends it by the abort (R207). -/
theorem IsGate.aborts {k poll : SeqStep} (h : IsGate k poll) (ks : List SeqStep) {s : State}
    (hphase : s.phase = .refreshing) (hpin : s.cfg.hasBusy = true)
    (hbusy : ∀ j, j ≤ lastSample s.cfg.gateOrder Config.waitTimeout → s.upcomingBusy j = true) :
    runSequence ([k, poll] ++ ks) s
      = idleAfter { s.gateTimedOut Config.waitTimeout with status := .degraded } 0#16 := by
  have hend : ((s.atStep poll).gateTimedOut Config.waitTimeout).endSequence false
      = ((s.atStep poll).gateTimedOut Config.waitTimeout).abort := by
    have hphase' : ((s.atStep poll).gateTimedOut Config.waitTimeout).phase = .refreshing := hphase
    rw [State.endSequence, hphase']
    rfl
  rw [h.runSequence_eq, State.gate_timesOut (s := s.atStep poll) hpin hbusy]
  exact hend

/-- Every DISPLAY begins with a gate (R166, R175). -/
theorem displaySteps_begin_with_gate (c : Config) :
    ∃ k poll ks, IsGate k poll ∧ displaySteps c = [k, poll] ++ ks := by
  by_cases h : c.profile.strategy = .a
  · exact ⟨_, _, _, isGate_a1, displaySteps_a h⟩
  · exact ⟨_, _, _, isGate_b1, displaySteps_b h⟩

/-- Settles O34: it holds; the first two sub-steps of every strategy are its gate, and a gate that times out
aborts. -/
theorem displayAbortsAtItsFirstGate : Obligations.DisplayAbortsAtItsFirstGate := by
  unfold Obligations.DisplayAbortsAtItsFirstGate
  intro s hphase hpin hbusy
  obtain ⟨k, poll, ks, hgate, hsteps⟩ := displaySteps_begin_with_gate s.cfg
  have habort := hgate.aborts ks (s := s.beginSequence .refreshing) rfl hpin hbusy
  rw [exec_display hphase, hsteps, habort]
  rfl

/-! ### Strategy A between its gates and after -/

/-- After `n` samples the samples to come are those that came after them (R141). -/
theorem upcomingBusy_afterSamples (s : State) (n j : Nat) (v : Level) :
    (afterSamples s n v).upcomingBusy j = s.upcomingBusy (n + j) := by
  simp only [State.upcomingBusy, afterSamples, List.getD_eq_getElem?_getD, List.getElem?_drop, Nat.add_assoc]

theorem afterSamples_afterSamples (s : State) (m n : Nat) (v w : Level) :
    afterSamples (afterSamples s m v) n w = afterSamples s (m + n) w := by
  simp only [afterSamples, List.drop_drop, Nat.add_assoc]

theorem BusAtRest.withEvents {s : State} (h : BusAtRest s) (es : List Event) : BusAtRest (withEvents s es) := h

theorem BusAtRest.atStep {s : State} (h : BusAtRest s) (k : SeqStep) : BusAtRest (s.atStep k) := h

theorem BusAtRest.gateSucceeded {s : State} (h : BusAtRest s) (t k : Nat) : BusAtRest (s.gateSucceeded t k) := h

/-- A strategy-A DISPLAY, begun in `s`, at its second gate, after its first saw the sample `k` not busy (R166 to
R170). -/
def State.atSecondGate (s : State) (k : Nat) : State :=
  { withEvents (s.gateSucceeded 1000 k) (lutEvents s.cfg s.modeCounter.toNat ++ windowEvents s.cfg) with
    modeCounter := counterAfter s.cfg s.modeCounter, phase := .refreshing, seqStep := some .a3 }

theorem BusAtRest.atSecondGate {s : State} (h : BusAtRest s) (k : Nat) : BusAtRest (s.atSecondGate k) :=
  (h.gateSucceeded 1000 k).withEvents (lutEvents s.cfg s.modeCounter.toNat ++ windowEvents s.cfg)

theorem State.upcomingBusy_atSecondGate (s : State) (k j : Nat) :
    (s.atSecondGate k).upcomingBusy j = s.upcomingBusy (k + 1 + j) := by
  rw [← upcomingBusy_afterSamples s (k + 1) j false]
  cases s
  rfl

theorem sampleEvents_atSecondGate (s : State) (k n : Nat) :
    sampleEvents (s.atSecondGate k) (s.atSecondGate k).now 0 n = sampleEvents s (s.now + 10 * k) (k + 1) n := by
  refine List.map_congr_left fun j _ => ?_
  rw [State.upcomingBusy_atSecondGate, Nat.zero_add]
  rfl

/-- What the second gate's samples and events leave, told from the state DISPLAY began in. -/
theorem afterSamples_atSecondGate (s : State) (k n t : Nat) (es : List Event) (v : Level) :
    atTime (afterSamples (gateRegs (withEvents (s.atSecondGate k) es) (s.atSecondGate k).now 1000) n v) t
      = { atTime (afterSamples (gateRegs (withEvents s
            (sampleEvents s s.now 0 (k + 1) ++ lutEvents s.cfg s.modeCounter.toNat ++ windowEvents s.cfg ++ es))
            (s.now + 10 * k) 1000) (k + 1 + n) v) t with
          modeCounter := counterAfter s.cfg s.modeCounter, phase := .refreshing, seqStep := some .a3 } := by
  rw [← withEvents_append, List.append_assoc, ← withEvents_append, ← afterSamples_afterSamples _ (k + 1) n false]
  cases s
  rfl

/-- Past its first gate a strategy-A DISPLAY comes to its second. -/
theorem exec_display_to_secondGate {s : State} {k : Nat} (hbus : BusAtRest s) (hphase : s.phase = .idle)
    (hstrategy : s.cfg.profile.strategy = .a) (hpin : s.cfg.hasBusy = true) (hfirst : firstNotBusy s 0 k)
    (hk : k ≤ lastSample s.cfg.gateOrder 1000) :
    exec .display s = .next (runSequence ([.a4, .a4Poll] ++ [.a5, .a6, .a7]) (s.atSecondGate k)) := by
  have hmiddle := runPart_dispatchAndWindow
    (s := ((s.beginSequence .refreshing).gateSucceeded Config.waitTimeout k).atStep .a1Poll) hbus
  rw [exec_display hphase, displaySteps_a hstrategy,
    isGate_a1.goes_on _ (s := s.beginSequence .refreshing) hpin hk hfirst, runSequence_append _ hmiddle]
  cases s
  rfl

/-- Settles O35: it holds; the second gate aborts, and what was sent before it stands. -/
theorem displayAAbortsAtItsSecondGate : Obligations.DisplayAAbortsAtItsSecondGate := by
  unfold Obligations.DisplayAAbortsAtItsSecondGate
  intro s k hinv hphase hstrategy hpin hfirst hk hbusy
  have habort := isGate_a4.aborts [.a5, .a6, .a7] (s := s.atSecondGate k) rfl hpin
    fun j hj => (s.upcomingBusy_atSecondGate k j).trans (hbusy j hj)
  rw [exec_display_to_secondGate hinv.busIdle hphase hstrategy hpin hfirst hk, habort, State.gateTimedOut,
    Config.waitTimeout, afterSamples_atSecondGate, sampleEvents_atSecondGate, ← List.append_assoc]
  rfl

/-- Settles O32: it holds; the second gate's samples follow the window's traffic, and the frame follows them. -/
theorem displayAStreamsTheFrame : Obligations.DisplayAStreamsTheFrame := by
  unfold Obligations.DisplayAStreamsTheFrame
  rintro s k l hinv hphase hstrategy hpin hfirst hk ⟨hbusy, hlater, hfree⟩ hl
  obtain ⟨m, rfl⟩ := Nat.exists_eq_add_of_le hlater
  have hbus : BusAtRest s := hinv.busIdle
  have hm : m ≤ lastSample s.cfg.gateOrder 1000 := by omega
  have hsecond : firstNotBusy (s.atSecondGate k) 0 m := by
    refine ⟨fun j _ hj => ?_, Nat.zero_le m, (s.upcomingBusy_atSecondGate k m).trans hfree⟩
    exact (s.upcomingBusy_atSecondGate k j).trans (hbusy _ (Nat.le_add_right _ _) (by omega))
  have hgate := isGate_a4.goes_on [.a5, .a6, .a7] (s := s.atSecondGate k) hpin hm hsecond
  have hframe := runSequence_frameAndUpdate rfl
    (((hbus.atSecondGate k).gateSucceeded Config.waitTimeout m).atStep .a4Poll)
  have hsamples : k + 1 + m - k = m + 1 := by omega
  have htime : s.now + 10 * (k + 1 + m - 1) = s.now + 10 * k + 10 * m := by omega
  have hmerged : (s.atSecondGate k).gateSucceeded Config.waitTimeout m = _ :=
    afterSamples_atSecondGate s k (m + 1) (s.now + 10 * k + 10 * m)
      (sampleEvents (s.atSecondGate k) (s.atSecondGate k).now 0 (m + 1)) false
  rw [exec_display_to_secondGate hbus hphase hstrategy hpin hfirst hk, hgate, hframe, hmerged,
    sampleEvents_atSecondGate, hsamples, htime,
    ← withEvents_append s _ (frameEventsA s.cfg s.fb.bytes)]
  cases s
  rfl

/-- Settles O38: it holds; the gate goes on, and the sub-steps after it send the planes. -/
theorem displayBStreamsItsPlanes : Obligations.DisplayBStreamsItsPlanes := by
  unfold Obligations.DisplayBStreamsItsPlanes
  intro s k hinv hphase hstrategy hpin hfirst hk
  have hbus : BusAtRest (s.beginSequence .refreshing) := hinv.busIdle
  have hgate := isGate_b1.goes_on (planeSteps s.cfg) (s := s.beginSequence .refreshing) hpin hk hfirst
  have hplanes := runSequence_planeSteps rfl ((hbus.gateSucceeded Config.waitTimeout k).atStep .b1Poll)
  rw [State.atStep_cfg, State.gateSucceeded_cfg, State.beginSequence_cfg] at hplanes
  rw [exec_display hphase, displaySteps_b hstrategy, hgate, hplanes, ← withEvents_append]
  cases s
  rfl

/-! ### How a DISPLAY ends -/

/-- A DISPLAY's end: NOMINAL and OK, 1, or DEGRADED and OK, 0 with the timeout last (R165, R207). -/
def DisplayEnded (t : State) : Prop :=
  t.phase = .idle
    ∧ ((t.status = .nominal ∧ t.response = some 1#32)
      ∨ (t.status = .degraded ∧ t.response = some 0#32 ∧ t.trace.getLast? = some .busyTimeout))

/-- A sequence in DISPLAY that has set NOMINAL completes. -/
theorem displayEnded_of_nominal {s : State} (hphase : s.phase = .refreshing) (hstatus : s.status = .nominal) :
    DisplayEnded (s.endSequence true) := by
  rw [State.endSequence_refreshed hphase]
  exact ⟨rfl, .inl ⟨hstatus, rfl⟩⟩

theorem displayEnded_of_abort {s : State} (hphase : s.phase = .refreshing)
    (hlast : s.trace.getLast? = some .busyTimeout) : DisplayEnded (s.endSequence false) := by
  rw [State.endSequence, hphase]
  exact ⟨rfl, .inr ⟨rfl, rfl, hlast⟩⟩

/-- A gate inside DISPLAY hands on, or ends it by the abort. -/
theorem IsGate.displayEnded {k poll : SeqStep} (h : IsGate k poll) {ks : List SeqStep} {s : State}
    (hphase : s.phase = .refreshing)
    (hrest : ∀ u : State, u.phase = .refreshing → u.cfg = s.cfg → DisplayEnded (runSequence ks u)) :
    DisplayEnded (runSequence ([k, poll] ++ ks) s) := by
  have hframe : SeqFrame (s.atStep poll) ((s.atStep poll).gate Config.waitTimeout).2 :=
    (SeqFrame.openGate _ _).trans (State.pollGate_frame _).seqFrame
  have hphase' := hframe.phase.trans hphase
  rw [h.runSequence_eq]
  cases hok : ((s.atStep poll).gate Config.waitTimeout).1 with
  | true => exact hrest _ hphase' hframe.cfg
  | false => exact displayEnded_of_abort hphase' (State.gate_false_raises hok)

/-- Settles O45: it holds; every sub-step of DISPLAY but a gate goes on, and the last sets NOMINAL. -/
theorem displaySetsStatusByItsOutcome : Obligations.DisplaySetsStatusByItsOutcome := by
  unfold Obligations.DisplaySetsStatusByItsOutcome
  intro s t hphase h
  rw [exec_display hphase] at h
  cases h
  change DisplayEnded _
  by_cases hstrategy : s.cfg.profile.strategy = .a
  · have hmiddle (u : State) : runPart [.a2, .a3] u
        = some (((u.atStep .a2).dispatchLut.atStep .a3).send (windowTxs u.cfg ++ counterTxs u.cfg)) := rfl
    have hframe (u : State) : runSequence [.a5, .a6, .a7] u
        = ((((((u.atStep .a5).send (ramTxs u.cfg u.fb)).atStep .a6).send (updateTxs u.cfg)).atStep .a7).setStatus
            .nominal).endSequence true := rfl
    rw [displaySteps_a hstrategy]
    refine isGate_a1.displayEnded rfl fun u hu _ => ?_
    rw [runSequence_append _ (hmiddle u)]
    refine isGate_a4.displayEnded (by simpa [State.dispatchLut_eq] using hu) fun v hv _ => ?_
    rw [hframe]
    exact displayEnded_of_nominal (by simpa using hv) rfl
  · rw [displaySteps_b hstrategy]
    refine isGate_b1.displayEnded rfl fun u hu hcfg => ?_
    have hplanes := runSequence_planeSteps_eq u
    rw [hcfg] at hplanes
    exact hplanes ▸ displayEnded_of_nominal hu rfl

end Sys2Proof.Machine
end

section
/-! PROOFS. What a DISPLAY sends (spec/43_refresh.md R181 to R184): the bus transactions of each of its outcomes, what
each does to the counter, and how many transactions a completed one makes. -/

namespace Sys2Proof.Machine

open Sys2Proof.Claims

/-! ### The bus transactions among the events -/

theorem busEvents_map_txEvent (ts : List Tx) : (ts.map txEvent).filter isBusEvent = ts.map txEvent := by
  refine List.filter_eq_self.2 fun e he => ?_
  obtain ⟨⟨kind, b⟩, -, rfl⟩ := List.mem_map.1 he
  cases kind <;> rfl

theorem busEvents_lutEvents (c : Config) (counter : BitVec 32) :
    (lutEvents c counter.toNat).filter isBusEvent = lutEvents c counter.toNat := by
  rw [← dispatchTxs_events, busEvents_map_txEvent]

theorem busEvents_windowEvents (c : Config) : (windowEvents c).filter isBusEvent = windowEvents c := by
  rw [← windowTxs_counterTxs_events, busEvents_map_txEvent]

theorem busEvents_frameEventsA (c : Config) (m : Memory) :
    (frameEventsA c m.bytes).filter isBusEvent = frameEventsA c m.bytes := by
  rw [← ramTxs_updateTxs_events, busEvents_map_txEvent]

theorem busEvents_frameEventsB (c : Config) (m : Memory) :
    (frameEventsB c m.bytes).filter isBusEvent = frameEventsB c m.bytes := by
  rw [← frameTxsB_events, busEvents_map_txEvent]

theorem busEvents_sampleEvents (s : State) (t k n : Nat) : (sampleEvents s t k n).filter isBusEvent = [] :=
  List.filter_eq_nil_iff.2 fun e he => by simp [sampleEvents_not_busEvent s t k n e he]

theorem busEvents_busyTimeout : [Event.busyTimeout].filter isBusEvent = [] := rfl

/-- From `s` to `t` the bus transactions `es` have gone out (R37, R121). -/
def Sent (s t : State) (es : List Event) : Prop :=
  t.trace.filter isBusEvent = s.trace.filter isBusEvent ++ es

/-- A request that has appended the events `es` has sent the transactions among them. -/
theorem Sent.of_next {s t u : State} {es : List Event} (h : (.next u : Result) = .next t)
    (htrace : u.trace = s.trace ++ es) : Sent s t (es.filter isBusEvent) := by
  cases h
  rw [Sent, htrace, List.filter_append]

theorem Sent.length {s t : State} {es : List Event} (h : Sent s t es) :
    (t.trace.filter isBusEvent).length = (s.trace.filter isBusEvent).length + es.length := by
  rw [h, List.length_append]

/-! ### The outcomes of a strategy-A DISPLAY -/

/-- The three ways a strategy-A DISPLAY begun in `s` ends in `t`. -/
inductive OutcomeA (s t : State) : Prop where
  /-- its first gate failed (R166) -/
  | abortedAtStepOne (fails : ¬passesStepOne s) (counter : t.modeCounter = s.modeCounter)
      (status : t.status = .degraded) (response : t.response = some 0#32) (sent : Sent s t [])
  /-- its second gate failed (R171) -/
  | abortedAtStepTwo (counter : t.modeCounter = counterAfter s.cfg s.modeCounter)
      (status : t.status = .degraded) (response : t.response = some 0#32)
      (sent : Sent s t (lutEvents s.cfg s.modeCounter.toNat ++ windowEvents s.cfg))
  /-- it went through (R174) -/
  | completed (counter : t.modeCounter = counterAfter s.cfg s.modeCounter)
      (status : t.status = .nominal) (response : t.response = some 1#32)
      (sent : Sent s t (lutEvents s.cfg s.modeCounter.toNat ++ windowEvents s.cfg
        ++ frameEventsA s.cfg s.fb.bytes))

/-- A DISPLAY that does not pass step 1 has a busy pin whose every sample reads busy (R144, R151). -/
theorem allBusy_of_not_passesStepOne {s : State} (h : ¬passesStepOne s) :
    s.cfg.hasBusy = true ∧ ∀ j, j ≤ lastSample s.cfg.gateOrder 1000 → s.upcomingBusy j = true := by
  obtain ⟨hpin, hnone⟩ := not_or.1 h
  exact ⟨Bool.eq_true_of_not_eq_false hpin, (exists_firstNotBusy_or_allBusy s _).resolve_left hnone⟩

/-- One that passes it has no pin, or sees the panel not busy and then either does so again or aborts. -/
theorem exec_display_of_passesStepOne {s t : State} (hinv : Inv s) (hphase : s.phase = .idle)
    (hstrategy : s.cfg.profile.strategy = .a) (hpass : passesStepOne s) (h : exec .display s = .next t) :
    OutcomeA s t := by
  cases hpin : s.cfg.hasBusy with
  | false =>
    rw [displayAWithoutBusyPinStreamsTheFrame s hinv hphase hstrategy hpin] at h
    have hsent := Sent.of_next h rfl
    simp only [List.filter_append, busEvents_lutEvents, busEvents_windowEvents, busEvents_frameEventsA] at hsent
    cases h
    exact .completed rfl rfl rfl hsent
  | true =>
    obtain ⟨k, hk, hfirst⟩ := hpass.resolve_left (by simp [hpin])
    have hsecond : ∀ j, (s.atSecondGate k).upcomingBusy j = s.upcomingBusy (k + 1 + j) :=
      s.upcomingBusy_atSecondGate k
    obtain ⟨m, hm, hbusy, -, hfree⟩ | hbusy :=
      exists_firstNotBusy_or_allBusy (s.atSecondGate k) (lastSample s.cfg.gateOrder 1000)
    · have hlater : firstNotBusy s (k + 1) (k + 1 + m) := by
        refine ⟨fun j hj hjm => ?_, Nat.le_add_right _ _, (hsecond m).symm.trans hfree⟩
        obtain ⟨i, rfl⟩ := Nat.exists_eq_add_of_le hj
        exact (hsecond i).symm.trans (hbusy i (Nat.zero_le i) (by omega))
      rw [displayAStreamsTheFrame s k (k + 1 + m) hinv hphase hstrategy hpin hfirst hk hlater (by omega)] at h
      have hsent := Sent.of_next h rfl
      simp only [List.filter_append, busEvents_sampleEvents, busEvents_lutEvents, busEvents_windowEvents,
        busEvents_frameEventsA, List.nil_append, List.append_nil] at hsent
      cases h
      exact .completed rfl rfl rfl hsent
    · rw [displayAAbortsAtItsSecondGate s k hinv hphase hstrategy hpin hfirst hk
        fun j hj => (hsecond j).symm.trans (hbusy j hj)] at h
      have hsent := Sent.of_next h rfl
      simp only [List.filter_append, busEvents_sampleEvents, busEvents_lutEvents, busEvents_windowEvents,
        busEvents_busyTimeout, List.nil_append, List.append_nil] at hsent
      cases h
      exact .abortedAtStepTwo rfl rfl rfl hsent

/-- Every strategy-A DISPLAY ends in one of the three ways. -/
theorem exec_display_outcomeA {s t : State} (hinv : Inv s) (hphase : s.phase = .idle)
    (hstrategy : s.cfg.profile.strategy = .a) (h : exec .display s = .next t) : OutcomeA s t := by
  by_cases hpass : passesStepOne s
  · exact exec_display_of_passesStepOne hinv hphase hstrategy hpass h
  · obtain ⟨hpin, hbusy⟩ := allBusy_of_not_passesStepOne hpass
    rw [displayAbortsAtItsFirstGate s hphase hpin hbusy] at h
    have hsent := Sent.of_next h rfl
    rw [List.filter_append, busEvents_sampleEvents, busEvents_busyTimeout, List.append_nil] at hsent
    have hcounter : t.modeCounter = s.modeCounter := by
      cases h
      simp only [idleAfter, atTime, afterSamples, gateRegs, withEvents]
    cases h
    exact .abortedAtStepOne hpass hcounter rfl rfl hsent

theorem counterAfter_of_lt {c : Config} (h : c.fullUpdateEvery.toNat < 2) (counter : BitVec 32) :
    counterAfter c counter = counter := if_neg (Nat.not_le.2 h)

/-- With switching on the counter goes up by one, modulo `N` (R167, R181). -/
theorem counterAfter_toNat {c : Config} (h : 2 ≤ c.fullUpdateEvery.toNat) (counter : BitVec 32) :
    (counterAfter c counter).toNat = (counter.toNat + 1) % c.fullUpdateEvery.toNat := by
  have hlt : (counter.toNat + 1) % c.fullUpdateEvery.toNat < c.fullUpdateEvery.toNat := Nat.mod_lt _ (by omega)
  rw [counterAfter, if_pos h, BitVec.toNat_ofNat, Nat.mod_eq_of_lt (hlt.trans c.fullUpdateEvery.isLt)]

/-- Settles O37: it holds; the counter is written between the gates, and an abort at the second undoes nothing. -/
theorem counterAdvancesUnlessAbortedAtStepOne : Obligations.CounterAdvancesUnlessAbortedAtStepOne := by
  unfold Obligations.CounterAdvancesUnlessAbortedAtStepOne
  intro s t hinv hphase hstrategy h
  have hadvance (hcounter : t.modeCounter = counterAfter s.cfg s.modeCounter) :
      (2 ≤ s.cfg.fullUpdateEvery.toNat →
          (t.modeCounter = s.modeCounter ∧ t.status = .degraded ∧ t.wire = s.wire ∧ t.response = some 0#32)
            ∨ t.modeCounter.toNat = (s.modeCounter.toNat + 1) % s.cfg.fullUpdateEvery.toNat)
        ∧ (s.cfg.fullUpdateEvery.toNat < 2 → t.modeCounter = s.modeCounter) :=
    ⟨fun hN => .inr (hcounter ▸ counterAfter_toNat hN _), fun hN => hcounter.trans (counterAfter_of_lt hN _)⟩
  cases exec_display_outcomeA hinv hphase hstrategy h with
  | abortedAtStepOne _ hcounter hstatus hresponse hsent =>
    obtain ⟨-, -, -, -, hwire⟩ := (exec_effect h).busFrame.unmoved (hsent.trans (List.append_nil _))
    exact ⟨fun _ => .inl ⟨hcounter, hstatus, hwire, hresponse⟩, fun _ => hcounter⟩
  | abortedAtStepTwo hcounter => exact hadvance hcounter
  | completed hcounter => exact hadvance hcounter

/-! ### How many transactions a completed DISPLAY makes -/

theorem length_commandEvents (code : Byte) (ds : List Byte) :
    (commandEvents code ds).length = ds.length + 1 := by
  simp [commandEvents]

/-- The tables of a well-formed strategy-A profile have one length (R29), so a LUT write has one too (R168). -/
theorem length_lutEvents {c : Config} (hwf : c.profile.wf = true) (hstrategy : c.profile.strategy = .a)
    (counter : Nat) : (lutEvents c counter).length =
      if 2 ≤ c.fullUpdateEvery.toNat ∧ counter ≤ 1 then 1 + c.profile.lutFull.length else 0 := by
  have htables : c.profile.lutFull.length = c.profile.lutPartial.length := by
    obtain ⟨-, -, -, -, -, -, hA⟩ := (Profile.wf_iff _).1 hwf
    obtain ⟨-, -, htables⟩ := (Profile.wfA_iff _).1 (hA hstrategy)
    exact htables
  unfold lutEvents
  by_cases hN : 2 ≤ c.fullUpdateEvery.toNat
  · obtain rfl | rfl | hlater : counter = 0 ∨ counter = 1 ∨ 2 ≤ counter := by omega
    · simp [hN, length_commandEvents, Nat.add_comm]
    · simp [hN, length_commandEvents, Nat.add_comm, htables]
    · have h0 : counter ≠ 0 := by omega
      have h1 : counter ≠ 1 := by omega
      have hle : ¬counter ≤ 1 := by omega
      simp [h0, h1, hle]
  · simp [hN]

theorem length_windowEvents (c : Config) : (windowEvents c).length = 13 := rfl

theorem length_frameEventsA (c : Config) (bs : List Byte) :
    (frameEventsA c bs).length = 4 + bs.length + c.updateCtrlData.length := by
  simp only [frameEventsA, List.length_append, length_commandEvents, List.length_cons, List.length_nil]
  omega

/-- A plane sends one byte for each framebuffer byte, or four for B75 (R176, R177). -/
theorem length_planeBytes (c : Config) (bs : List Byte) :
    (bs.flatMap (planeByte c)).length = (if c.profile.strategy = .b75 then 4 else 1) * bs.length := by
  have hbyte (v : Byte) : (planeByte c v).length = if c.profile.strategy = .b75 then 4 else 1 := by
    unfold planeByte
    split <;> rfl
  simp only [List.length_flatMap, hbyte, List.map_const', List.sum_replicate, smul_eq_mul, Nat.mul_comm]

theorem length_frameEventsB (c : Config) (bs : List Byte) : (frameEventsB c bs).length =
    ((if c.profile.strategy = .b75 then 4 else 1) * bs.length + 1)
      * (if c.profile.strategy = .b75 ∧ c.b75Planes = .one then 1 else 2) + 1 := by
  simp only [frameEventsB, List.length_append, apply_ite List.length, length_commandEvents, length_planeBytes,
    List.length_nil, List.length_singleton]
  by_cases hone : c.profile.strategy = .b75 ∧ c.b75Planes = .one
  · simp only [if_pos hone]
    omega
  · simp only [if_neg hone]
    omega

/-- A DISPLAY of strategy B or B75 that answers OK, 1 has sent its planes (R175). -/
theorem sent_of_completedB {s t : State} (hinv : Inv s) (hphase : s.phase = .idle)
    (hstrategy : s.cfg.profile.strategy ≠ .a) (h : exec .display s = .next t) (hresponse : t.response = some 1#32) :
    Sent s t (frameEventsB s.cfg s.fb.bytes) := by
  cases hpin : s.cfg.hasBusy with
  | false =>
    rw [displayBWithoutBusyPinStreamsItsPlanes s hinv hphase hstrategy hpin] at h
    have hsent := Sent.of_next h rfl
    rwa [busEvents_frameEventsB] at hsent
  | true =>
    obtain ⟨k, hk, hfirst⟩ | hbusy := exists_firstNotBusy_or_allBusy s (lastSample s.cfg.gateOrder 1000)
    · rw [displayBStreamsItsPlanes s k hinv hphase hstrategy hpin hfirst hk] at h
      have hsent := Sent.of_next h rfl
      rwa [List.filter_append, busEvents_sampleEvents, busEvents_frameEventsB, List.nil_append] at hsent
    · rw [displayAbortsAtItsFirstGate s hphase hpin hbusy] at h
      have hresponse' : t.response = some 0#32 := by cases h; rfl
      exact absurd (hresponse.symm.trans hresponse') (by decide)

/-- Settles O42: it holds; each outcome's transactions are counted command by command. -/
theorem completedDisplayTransactionCounts : Obligations.CompletedDisplayTransactionCounts := by
  unfold Obligations.CompletedDisplayTransactionCounts
  intro s t hinv hphase h hresponse
  have hbytes : s.fb.bytes.length = byteLength s.cfg.profile := Memory.length_bytes hinv.framebuffer
  cases hstrategy : s.cfg.profile.strategy with
  | a =>
    cases exec_display_outcomeA hinv hphase hstrategy h with
    | abortedAtStepOne _ _ _ hresponse' => exact absurd (hresponse.symm.trans hresponse') (by decide)
    | abortedAtStepTwo _ _ hresponse' => exact absurd (hresponse.symm.trans hresponse') (by decide)
    | completed _ _ _ hsent =>
      rw [hsent.length, List.length_append, List.length_append, length_lutEvents hinv.profile hstrategy,
        length_windowEvents, length_frameEventsA, hbytes]
      dsimp only
      omega
  | b =>
    have hsent := sent_of_completedB hinv hphase (by simp [hstrategy]) h hresponse
    rw [hsent.length, length_frameEventsB, hbytes, hstrategy]
    simp only [reduceCtorEq, false_and, if_false]
    omega
  | b75 =>
    have hsent := sent_of_completedB hinv hphase (by simp [hstrategy]) h hresponse
    rw [hsent.length, length_frameEventsB, hbytes, hstrategy]
    cases s.cfg.b75Planes with
    | two =>
      simp only [reduceCtorEq, and_false, if_true, if_false]
      omega
    | one =>
      simp only [and_self, if_true]
      omega

end Sys2Proof.Machine
end

section
/-! PROOFS. The cadence of the LUT writes (spec/43_refresh.md R167, R181, R182): what a step that takes a strategy-A
DISPLAY keeps of a run of them, and by induction the counter and the tables of the whole run. -/

namespace Sys2Proof.Machine

open Sys2Proof.Claims

/-- Taking the request changes nothing that tells the outcomes apart. -/
theorem OutcomeA.of_accept {s t : State} {r : Request} {rs : List Request} (h : OutcomeA (s.accept r rs) t) :
    OutcomeA s t := by
  cases h with
  | abortedAtStepOne fails counter status response sent => exact .abortedAtStepOne fails counter status response sent
  | abortedAtStepTwo counter status response sent => exact .abortedAtStepTwo counter status response sent
  | completed counter status response sent => exact .completed counter status response sent

/-- `s` stands in a run of strategy-A DISPLAYs, begun in `s₀` at counter 0, with `N >= 2`, after `j` of them. -/
structure InCadence (s₀ s : State) (j : Nat) : Prop where
  inv : Inv s
  phase : s.phase = .idle
  cfg : s.cfg = s₀.cfg
  fb : s.fb = s₀.fb
  strategy : s₀.cfg.profile.strategy = .a
  switching : 2 ≤ s₀.cfg.fullUpdateEvery.toNat
  counter : s.modeCounter.toNat = j % s₀.cfg.fullUpdateEvery.toNat

theorem InCadence.start {s : State} (hinv : Inv s) (hphase : s.phase = .idle)
    (hstrategy : s.cfg.profile.strategy = .a) (hN : 2 ≤ s.cfg.fullUpdateEvery.toNat)
    (hcounter : s.modeCounter = 0#32) : InCadence s s 0 :=
  ⟨hinv, hphase, rfl, rfl, hstrategy, hN, by rw [hcounter, Nat.zero_mod]; rfl⟩

theorem InCadence.strategyA {s₀ s : State} {j : Nat} (h : InCadence s₀ s j) : s.cfg.profile.strategy = .a :=
  h.cfg ▸ h.strategy

/-- A step that takes a DISPLAY ends in one of its outcomes. -/
theorem InCadence.outcome {s₀ s t : State} {j : Nat} (h : InCadence s₀ s j) {r : Request} {rs : List Request}
    (hr : s.requests = r :: rs) (hd : decode r.word = .ok .display) (hstep : step s = .next t) : OutcomeA s t := by
  rw [step_legal h.inv.ready hr hd] at hstep
  exact (exec_display_outcomeA (h.inv.accept r rs) h.phase h.strategyA hstep).of_accept

/-- A DISPLAY that passes step 1 advances the counter, whatever its second gate sees. -/
theorem OutcomeA.counter_of_passes {s t : State} (h : OutcomeA s t) (hpass : passesStepOne s) :
    t.modeCounter = counterAfter s.cfg s.modeCounter := by
  cases h with
  | abortedAtStepOne fails => exact absurd hpass fails
  | abortedAtStepTwo counter => exact counter
  | completed counter => exact counter

/-- So a step that takes one that passes step 1 goes on with the cadence (R181). -/
theorem InCadence.next {s₀ s t : State} {j : Nat} (h : InCadence s₀ s j) {r : Request} {rs : List Request}
    (hr : s.requests = r :: rs) (hd : decode r.word = .ok .display) (hpass : passesStepOne s)
    (hstep : step s = .next t) : InCadence s₀ t (j + 1) := by
  have hcounter := (h.outcome hr hd hstep).counter_of_passes hpass
  have hN : 2 ≤ s.cfg.fullUpdateEvery.toNat := h.cfg ▸ h.switching
  have hcfg : t.cfg = s.cfg := (configurationStandsAndHistoryGrows s t hstep).1
  have hexec := hstep
  rw [step_legal h.inv.ready hr hd] at hexec
  refine ⟨everyStepKeepsTheInvariant s t h.inv hstep, ?_, hcfg.trans h.cfg, ?_, h.strategy, h.switching, ?_⟩
  · exact (displaySetsStatusByItsOutcome (s.accept r rs) t h.phase hexec).1
  · exact (onlySetpxAndFillWriteTheFramebuffer (s.accept r rs) t .display hexec nofun nofun).trans h.fb
  · rw [hcounter, counterAfter_toNat hN, h.counter, h.cfg, Nat.mod_add_mod]

/-- What such a step sends: the table due, the window, and then the frame or, where it aborts, nothing (R167 to
R174). -/
theorem InCadence.sent {s₀ s t : State} {j : Nat} (h : InCadence s₀ s j) {r : Request} {rs : List Request}
    (hr : s.requests = r :: rs) (hd : decode r.word = .ok .display) (hpass : passesStepOne s)
    (hstep : step s = .next t) : ∃ frame,
      Sent s t (lutEvents s₀.cfg (j % s₀.cfg.fullUpdateEvery.toNat) ++ windowEvents s₀.cfg ++ frame)
        ∧ ((frame = frameEventsA s₀.cfg s₀.fb.bytes ∧ t.status = .nominal)
          ∨ (frame = [] ∧ t.status = .degraded)) := by
  rw [← h.counter, ← h.cfg, ← h.fb]
  cases h.outcome hr hd hstep with
  | abortedAtStepOne fails => exact absurd hpass fails
  | abortedAtStepTwo _ status _ sent => exact ⟨[], by rwa [List.append_nil], .inr ⟨rfl, status⟩⟩
  | completed _ status _ sent => exact ⟨_, sent, .inl ⟨rfl, status⟩⟩

/-- Settles O57: it holds, by induction on the run; an abort at the second gate comes after the counter's advance. -/
theorem lutCadenceOverDisplaysThatPassStepOne : Obligations.LutCadenceOverDisplaysThatPassStepOne := by
  unfold Obligations.LutCadenceOverDisplaysThatPassStepOne
  intro run n hinv hphase hstrategy hN hzero hrun
  have hcadence (j : Nat) (hj : j ≤ n) : InCadence (run 0) (run j) j := by
    induction j with
    | zero => exact .start hinv hphase hstrategy hN hzero
    | succ j ih =>
      obtain ⟨hpass, hstep, r, rs, hr, hd⟩ := hrun j hj
      exact (ih (Nat.le_of_succ_le hj)).next hr hd hpass hstep
  refine ⟨fun j hj => (hcadence j hj).counter, fun j hj => ?_⟩
  obtain ⟨hpass, hstep, r, rs, hr, hd⟩ := hrun j hj
  obtain ⟨frame, hsent, houtcome⟩ := (hcadence j hj.le).sent hr hd hpass hstep
  refine ⟨frame, ?_, houtcome⟩
  rw [hsent, ← List.append_assoc, ← List.append_assoc]

/-! ### Without a busy pin -/

/-- What a strategy-A DISPLAY without a busy pin appends to `trace` at a counter value. -/
def displayEventsA (c : Config) (bs : List Byte) (counter : Nat) : List Event :=
  lutEvents c counter ++ windowEvents c ++ frameEventsA c bs

/-- Without a busy pin a step that takes a DISPLAY completes it, with its exact traffic (R142). -/
theorem step_display_of_noPin {s : State} (hinv : Inv s) (hphase : s.phase = .idle)
    (hstrategy : s.cfg.profile.strategy = .a) (hpin : s.cfg.hasBusy = false) {r : Request} {rs : List Request}
    (hr : s.requests = r :: rs) (hd : decode r.word = .ok .display) :
    ∃ t, step s = .next t ∧ t.requests = rs
      ∧ t.trace = s.trace ++ displayEventsA s.cfg s.fb.bytes s.modeCounter.toNat := by
  rw [step_legal hinv.ready hr hd,
    displayAWithoutBusyPinStreamsTheFrame (s.accept r rs) (hinv.accept r rs) hphase hstrategy hpin]
  exact ⟨_, rfl, rfl, rfl⟩

theorem core_run_succ {s t : State} (h : step s = .next t) (n : Nat) :
    Sys2Proof.core.run (n + 1) s = Sys2Proof.core.run n t := by
  have hcore : Sys2Proof.core.step s = .next t := h
  simp only [Host.Core.run, hcore]

/-- A run of `n` presented DISPLAYs from anywhere in the cadence. -/
theorem InCadence.run {s₀ : State} (hpin : s₀.cfg.hasBusy = false) (n : Nat) {s : State} {j : Nat}
    (h : InCadence s₀ s j) (hr : s.requests = List.replicate n { gap := 0, word := 0x90000000#32 }) :
    ∃ t, Sys2Proof.core.run n s = .next t ∧ InCadence s₀ t (j + n)
      ∧ t.trace = s.trace ++ (List.range' j n).flatMap (fun i =>
          displayEventsA s₀.cfg s₀.fb.bytes (i % s₀.cfg.fullUpdateEvery.toNat)) := by
  induction n generalizing s j with
  | zero => exact ⟨s, rfl, h, by simp⟩
  | succ n ih =>
    have hpin' : s.cfg.hasBusy = false := h.cfg ▸ hpin
    have hd : decode 0x90000000#32 = .ok .display := by decide
    obtain ⟨u, hstep, hrest, htrace⟩ := step_display_of_noPin h.inv h.phase h.strategyA hpin' hr hd
    obtain ⟨t, hrun, hcadence, htrace'⟩ := ih (h.next hr hd (.inl hpin') hstep) hrest
    refine ⟨t, (core_run_succ hstep n).trans hrun, Nat.succ_add_eq_add_succ j n ▸ hcadence, ?_⟩
    rw [htrace', htrace, h.counter, h.cfg, h.fb, List.range'_succ, List.flatMap_cons, List.append_assoc]

/-- Settles O36: it holds, by induction on the requests that are left. -/
theorem lutCadenceHasPeriodN : Obligations.LutCadenceHasPeriodN := by
  unfold Obligations.LutCadenceHasPeriodN
  intro s n hinv hphase hstrategy hpin hN hzero hr
  obtain ⟨t, hrun, hcadence, htrace⟩ := (InCadence.start hinv hphase hstrategy hN hzero).run hpin n hr
  refine ⟨t, hrun, ?_, ?_⟩
  · rw [hcadence.counter, Nat.zero_add]
  · rw [htrace, List.range_eq_range']
    rfl

end Sys2Proof.Machine
end

section
/-! PROOFS. The answers of error (spec/60_exceptions.md R202 to R204): each is its word in the response port, and
leaves every other piece of state as before. -/

namespace Sys2Proof.Machine

theorem State.reject_errIllegal (s : State) :
    s.reject .errIllegal = { s with response := some 0x10000000#32 } := rfl

theorem State.reject_errSeq (s : State) :
    s.reject .errSeq = { s with response := some 0x20000000#32 } := rfl

theorem State.reject_errRange (s : State) :
    s.reject .errRange = { s with response := some 0x30000000#32 } := rfl

/-- From `L` on RDBYTE is refused (R204). -/
theorem exec_rdbyte_outOfRange {s : State} {i : Nat} (h : byteLength s.cfg.profile ≤ i) :
    exec (.rdbyte i) s = .next (s.reject .errRange) := if_pos h

/-- Below `L` RDBYTE answers the byte (R103). -/
theorem exec_rdbyte_inRange {s : State} {i : Nat} (h : i < byteLength s.cfg.profile) {v : Byte}
    (hv : s.fb.read i = some v) : exec (.rdbyte i) s = .next (s.respond .ok (v.setWidth 16)) := by
  simp [exec, execRdbyte, Nat.not_le.2 h, hv]

/-- Settles O18: it holds; the framebuffer has every byte below `L`, and a byte fits a response's value. -/
theorem rdbyteAnswersTheByteOrRangeError : Obligations.RdbyteAnswersTheByteOrRangeError := by
  unfold Obligations.RdbyteAnswersTheByteOrRangeError
  intro s i hfb
  refine ⟨fun hi => (exec_rdbyte_outOfRange hi).trans (congrArg _ s.reject_errRange), fun hi => ?_⟩
  obtain ⟨v, hv⟩ := Memory.exists_read hfb hi
  exact ⟨v, _, hv, exec_rdbyte_inRange hi hv,
    (responseWord_ok_toNat _).trans (BitVec.toNat_setWidth_of_le (by decide))⟩

/-- Settles O7: it holds; taking the placed word restores the state it was placed in, and answering it writes the
response only. -/
theorem illegalWordIsAnsweredAndHasNoEffect : Obligations.IllegalWordIsAnsweredAndHasNoEffect := by
  unfold Obligations.IllegalWordIsAnsweredAndHasNoEffect
  intro s w e hready hd
  have hd' : decode (tableWord 32 w.toNat) = .error e := by rw [tableWord_toNat, hd]
  calc step (s.withFetchWord 32 w.toNat)
      = .next (((s.withFetchWord 32 w.toNat).accept ⟨0, tableWord 32 w.toNat⟩ s.requests).reject .errIllegal) :=
        step_illegal hready rfl hd'
    _ = .next { s with response := some 0x10000000#32 } := by
        rw [accept_withFetchWord, State.reject_errIllegal]

/-- Settles O31: it holds, by the test of `phase` that each of the two begins with. -/
theorem outOfSequenceRequestsAreRefused : Obligations.OutOfSequenceRequestsAreRefused := by
  unfold Obligations.OutOfSequenceRequestsAreRefused
  refine fun s => ⟨fun hsetUp => ?_, fun hfresh => ?_⟩
  · rw [← State.reject_errSeq]
    exact if_neg hsetUp
  · rw [← State.reject_errSeq]
    exact if_pos hfresh

end Sys2Proof.Machine
end

section
/-! PROOFS. Reset (spec/70_reset_and_hazards.md R220, R221): an engine is built in the reset state only, the values it
has there, and that the invariant holds of it. -/

namespace Sys2Proof.Machine

/-- Only an admitted configuration and a whole framebuffer build an engine, and it stands in its reset state (R220). -/
theorem construct_eq_next {c : Config} {m : Memory} {s : State} (h : construct c m = .next s) :
    configWf c = true ∧ m.wf (byteLength c.profile) = true ∧ s = State.resetWith c m := by
  unfold construct at h
  split at h
  · rename_i hadmitted
    obtain ⟨hc, hm⟩ := Bool.and_eq_true_iff.1 hadmitted
    cases h
    exact ⟨hc, hm, rfl⟩
  · cases h

/-- Settles O48: it holds; an engine is built in its reset state, which has these values for every configuration. -/
theorem resetValuesAreTheSpecs : Obligations.ResetValuesAreTheSpecs := by
  unfold Obligations.ResetValuesAreTheSpecs
  intro c m s h
  obtain ⟨-, -, rfl⟩ := construct_eq_next h
  exact ⟨rfl, rfl, rfl, rfl, rfl, rfl, rfl, rfl, rfl, rfl, rfl, fun _ => rfl, rfl⟩

theorem profile_wf_of_configWf {c : Config} (h : configWf c = true) : c.profile.wf = true := by
  obtain ⟨hrow, -⟩ := Bool.and_eq_true_iff.1 h
  exact (Bool.and_eq_true_iff.1 hrow).1

/-- The counter's reset value is legal for every cadence (R24, R181). -/
theorem counterLegal_zero (c : Config) : counterLegal c 0#32 := by
  unfold counterLegal
  split
  · rename_i hswitching
    exact Nat.lt_of_lt_of_le Nat.two_pos hswitching.2
  · rfl

/-- The reset state meets the invariant for every well-formed profile and whole framebuffer. -/
theorem Inv.resetWith {c : Config} {m : Memory} (hprofile : c.profile.wf = true)
    (hm : m.wf (byteLength c.profile) = true) : Inv (State.resetWith c m) where
  profile := hprofile
  framebuffer := hm
  ready := rfl
  noStep := rfl
  counter := counterLegal_zero c
  fresh := fun _ => ⟨rfl, rfl⟩
  returnPhase := .inl rfl
  busIdle := ⟨rfl, rfl, rfl⟩
  resetReleased := rfl
  gateBegan := le_refl 0
  framing := rfl

/-- Settles O49: it holds; the reset state meets the invariant, and engines are built in it only. -/
theorem invariantHoldsAtReset : Obligations.InvariantHoldsAtReset := by
  unfold Obligations.InvariantHoldsAtReset
  refine ⟨fun c m s h => ?_, .resetWith (by decide) (Memory.wf_drawn _)⟩
  obtain ⟨hc, hm, rfl⟩ := construct_eq_next h
  exact .resetWith (profile_wf_of_configWf hc) hm

end Sys2Proof.Machine
end

section
/-! PROOFS. How long requests take (spec/70_reset_and_hazards.md R234, spec/42_busygate.md R146): only the reset
pulse's delays and the polls of gates let time pass, so a sequence lasts as long as those among its sub-steps. -/

namespace Sys2Proof.Machine

open Sys2Proof.Claims

/-! ### What lets time pass -/

/-- `gate(T)` lasts at most as long as a WAIT of `T` may (R146): it restarts its own timer, so from every state. -/
theorem State.gate_now_le (s : State) (t : Nat) : (s.gate t).2.now ≤ s.now + longest s.cfg (.wait t) := by
  cases hpin : s.cfg.hasBusy with
  | false => exact gateWithoutBusyPinSucceedsAtOnce s t hpin ▸ Nat.le_add_right _ _
  | true =>
    have hgate : s.gate t = pollLoop s.cfg.gateOrder (s.openGate t).pollRounds (s.openGate t) :=
      if_pos hpin
    have hloop := pollLoop_duration s.cfg.gateOrder (s.openGate t).pollRounds (s.openGate t) 0 (by simp [hpin])
    rw [← hgate] at hloop
    simp only [State.openGate_now, State.openGate_gateLimit, hpin, if_true] at hloop
    simp only [longest, hpin, if_true]
    omega

theorem State.gate_cfg (s : State) (t : Nat) : (s.gate t).2.cfg = s.cfg :=
  (s.openGate t).pollGate_frame.seqFrame.cfg

/-- The sub-steps in which the clock may move: the two delays of the reset pulse and the polls (R144, R162). -/
def passesTime : SeqStep → Bool
  | .pulseLow | .pulseHigh | .waitPoll | .a1Poll | .a4Poll | .b1Poll => true
  | _ => false

/-- Every other sub-step takes no time (log 21). -/
theorem runStep_now {k : SeqStep} (hk : passesTime k = false) (s : State) : (runStep k s).2.now = s.now := by
  cases k with
  | pulseLow => cases hk
  | pulseHigh => cases hk
  | waitPoll => cases hk
  | a1Poll => cases hk
  | a4Poll => cases hk
  | b1Poll => cases hk
  | _ => rfl

@[simp] theorem State.endSequence_now (s : State) (ok : Bool) : (s.endSequence ok).now = s.now := by
  obtain ⟨-, -, -, hnow, -⟩ := s.endSequence_frame ok
  exact hnow

/-! ### How long a sequence lasts -/

/-- In an engine built with `c` the sub-steps, run to the sequence's end, take at most `b` time units. -/
def LastsAtMost (c : Config) (ks : List SeqStep) (b : Nat) : Prop :=
  ∀ s : State, s.cfg = c → (runSequence ks s).now ≤ s.now + b

theorem LastsAtMost.nil (c : Config) : LastsAtMost c [] 0 :=
  fun s _ => (s.endSequence_now true).le

/-- A sub-step's time adds to the bound of the rest, which a failing sub-step skips. -/
theorem runSequence_cons_now_le {k : SeqStep} {ks : List SeqStep} {s : State} {n b : Nat}
    (hk : (runStep k (s.atStep k)).2.now ≤ s.now + n) (hks : LastsAtMost s.cfg ks b) :
    (runSequence (k :: ks) s).now ≤ s.now + (n + b) := by
  have hframe := runStep_frame k (s.atStep k)
  rcases hrun : runStep k (s.atStep k) with ⟨ok, t⟩
  rw [hrun] at hframe
  replace hk : t.now ≤ s.now + n := by rwa [hrun] at hk
  cases ok with
  | true =>
    have hrest := hks t hframe.cfg
    rw [runSequence_goes_on hrun]
    omega
  | false =>
    rw [runSequence_ends hrun, State.endSequence_now]
    omega

theorem LastsAtMost.cons {c : Config} {k : SeqStep} {ks : List SeqStep} {n b : Nat}
    (hk : ∀ s, (runStep k s).2.now ≤ s.now + n) (hks : LastsAtMost c ks b) :
    LastsAtMost c (k :: ks) (n + b) := by
  rintro s rfl
  exact runSequence_cons_now_le (hk (s.atStep k)) hks

/-- Sub-steps in which no time passes do not lengthen a sequence. -/
theorem LastsAtMost.of_instant {c : Config} {pre ks : List SeqStep} {b : Nat}
    (hpre : ∀ k ∈ pre, passesTime k = false) (hks : LastsAtMost c ks b) : LastsAtMost c (pre ++ ks) b := by
  induction pre with
  | nil => exact hks
  | cons k pre ih =>
    obtain ⟨hk, hpre⟩ := List.forall_mem_cons.1 hpre
    exact Nat.zero_add b ▸ (ih hpre).cons fun s => (runStep_now hk s).le

theorem LastsAtMost.zero {c : Config} {ks : List SeqStep} (hks : ∀ k ∈ ks, passesTime k = false) :
    LastsAtMost c ks 0 :=
  ks.append_nil ▸ .of_instant hks (.nil c)

/-- A gate of the engine's own adds a gate's bound. -/
theorem IsGate.lastsAtMost {k poll : SeqStep} (h : IsGate k poll) {c : Config} {ks : List SeqStep} {b : Nat}
    (hks : LastsAtMost c ks b) :
    LastsAtMost c ([k, poll] ++ ks) (longest c (.wait Config.waitTimeout) + b) := by
  rintro s rfl
  have hgate : ((s.atStep poll).gate Config.waitTimeout).2.now
      ≤ s.now + longest s.cfg (.wait Config.waitTimeout) := (s.atStep poll).gate_now_le _
  rw [h.runSequence_eq]
  split
  · have hrest := hks ((s.atStep poll).gate Config.waitTimeout).2 (State.gate_cfg _ _)
    omega
  · rw [State.endSequence_now]
    omega

/-! ### The requests -/

/-- R234's bound on DISPLAY is that of its gates: two with strategy A, else one. -/
theorem longest_display (c : Config) : longest c .display
    = (if c.profile.strategy = .a then 2 else 1) * longest c (.wait Config.waitTimeout) := by
  simp only [longest]
  split <;> split <;> rfl

theorem displaySteps_lastsAtMost (c : Config) : LastsAtMost c (displaySteps c) (longest c .display) := by
  rw [longest_display]
  split
  · rename_i hA
    rw [displaySteps_a hA, two_mul]
    exact isGate_a1.lastsAtMost (.of_instant (by decide) (isGate_a4.lastsAtMost (.zero (by decide))))
  · rename_i hB
    rw [displaySteps_b hB, one_mul]
    have hinstant : ∀ k ∈ planeSteps c, passesTime k = false := by
      unfold planeSteps
      split <;> decide
    exact isGate_b1.lastsAtMost (.zero hinstant)

theorem setupSteps_lastsAtMost (c : Config) : LastsAtMost c (setupSteps c) (longest c .setup) := by
  have hscripts : LastsAtMost c [.initScript, .setupLuts] 0 := .zero (by decide)
  simp only [setupSteps, longest]
  split
  · have hsettle := hscripts.cons (k := .pulseHigh) (n := Config.rstSettleTime) fun _ => le_refl _
    exact hsettle.cons (k := .pulseLow) (n := Config.rstLowTime) fun _ => le_refl _
  · exact hscripts

/-- WAIT lasts as long as its gate (R147). -/
theorem execWait_now_le {n : Nat} {s t : State} (h : execWait n s = .next t) :
    t.now ≤ s.now + longest s.cfg (.wait n) := by
  cases h
  have hgate : (runStep .waitPoll ((s.beginWait n).atStep .waitPoll)).2.now ≤ s.now + longest s.cfg (.wait n) :=
    s.heldWaiting.gate_now_le n
  exact runSequence_cons_now_le (s := s.beginWait n) hgate (.nil s.cfg)

theorem execSetup_now_le {s t : State} (h : execSetup s = .next t) : t.now ≤ s.now + longest s.cfg .setup := by
  unfold execSetup at h
  split at h
  · cases h
    exact setupSteps_lastsAtMost s.cfg (s.beginSequence .setup) rfl
  · cases h
    exact Nat.le_add_right _ _

theorem execDisplay_now_le {s t : State} (h : execDisplay s = .next t) :
    t.now ≤ s.now + longest s.cfg .display := by
  unfold execDisplay at h
  split at h
  · cases h
    exact Nat.le_add_right _ _
  · cases h
    exact displaySteps_lastsAtMost s.cfg (s.beginSequence .refreshing) rfl

/-- The requests that run no sequence take no time (R234). -/
theorem Effect.now_eq {s t : State} {i : Instr} (h : Effect s i t) (hwait : ∀ n, i ≠ .wait n)
    (hsetup : i ≠ .setup) (hdisplay : i ≠ .display) : t.now = s.now := by
  cases h with
  | answered => rfl
  | refusedSetup => exact absurd rfl hsetup
  | refusedDisplay => exact absurd rfl hdisplay
  | painted => rfl
  | filled => rfl
  | sentCmd => simp [State.tx_eq_send]
  | sentData => simp [State.tx_eq_send]
  | waited n => exact absurd rfl (hwait n)
  | ranSetup => exact absurd rfl hsetup
  | ranDisplay => exact absurd rfl hdisplay

/-- Every request ends within its bound (R234). -/
theorem exec_now_le {s t : State} {i : Instr} (h : exec i s = .next t) : t.now ≤ s.now + longest s.cfg i := by
  cases i with
  | wait n => exact execWait_now_le h
  | setup => exact execSetup_now_le h
  | display => exact execDisplay_now_le h
  | _ => exact ((exec_effect h).now_eq nofun nofun nofun).le

/-- Settles O52: it holds; time does not go back, and each request's sequence lasts as long as its gates and its
reset pulse may. -/
theorem requestDurationsAreBounded : Obligations.RequestDurationsAreBounded := by
  unfold Obligations.RequestDurationsAreBounded
  intro s t i h
  exact ⟨(exec_extends h).now, exec_now_le h⟩

end Sys2Proof.Machine
end
